-- ==== Sys2Proof/Word.lean ====
section
/-! DEFINITION. The words of the block: the bus byte, the 16-bit register, coordinate and colour, and the 9-bit bus word (R10). -/

namespace Sys2Proof

/-- A bus byte (R10, R53). -/
abbrev Byte := BitVec 8

/-- A window register, a cursor coordinate or a colour (R10). -/
abbrev Half := BitVec 16

/-- A bus word `w[8:0]`: bit 8 is the control-line level `dc`, bits 7:0 the byte (R73). -/
abbrev BusWord := BitVec 9

/-- A line level: `false` is 0, `true` is 1 (R25). For `dc`, 0 is the command phase and 1 the data phase. -/
abbrev Level := Bool

end Sys2Proof
end

