-- ==== Sys2Proof/Config.lean ====
section
/-! DEFINITION. What is fixed for a run (R8, R9, R52), the environment's decisions (R96, R97), and the free values: constants with no body, of which nothing can be proved but that they exist. -/

namespace Sys2Proof

/-- `WIRE_BIT_ORDER` (R9, R59): OPEN, and read by no rule. -/
inductive BitOrder where
  | msbFirst
  | lsbFirst
  deriving DecidableEq, Repr, Inhabited

/-- Why a transaction failed (R96). -/
inductive BusError where
  | fail     -- `BUS_FAIL`
  | timeout  -- `BUS_TIMEOUT`
  deriving DecidableEq, Repr, Inhabited

/-- One decision of the bus environment (R96). On an error the controller received the first `k` bytes
and then, if bytes were left, the corrupted byte `bad` if there is one (R97). -/
inductive BusChoice where
  | ok
  | error (e : BusError) (k : Nat) (bad : Option Byte)
  deriving DecidableEq, Repr, Inhabited

/-- The parameters of the block (R8, R9). The defaults are the spec's; the five OPEN ones have none. -/
structure Config where
  /-- `W`, display width in pixels. -/
  w : Nat := 240
  /-- `H`, display height in pixels. -/
  h : Nat := 320
  /-- `CHUNK_BYTES`, size of the Bulk Filler's scratch buffer. -/
  chunkBytes : Nat := 4096
  /-- `DUTY_MAX`, the backlight's maximum duty code. -/
  dutyMax : Nat := 255
  /-- `PWM_BITS`, resolution of the PWM channel. -/
  pwmBits : Nat := 8
  /-- `COLMOD_16BPP`, the pixel-format parameter for 16 bits per pixel. -/
  colmod16bpp : Byte := 0x55
  /-- `T_RST_LOW` (ms). -/
  tRstLow : Nat := 100
  /-- `T_RST_SETTLE` (ms). -/
  tRstSettle : Nat := 100
  /-- `T_SWRESET` (ms). -/
  tSwreset : Nat := 150
  /-- `T_SLPOUT` (ms). -/
  tSlpout : Nat := 120
  /-- `T_INVON` (ms). -/
  tInvon : Nat := 10
  /-- `T_NORON` (ms). -/
  tNoron : Nat := 10
  /-- `T_DISPON` (ms). -/
  tDispon : Nat := 120
  /-- `INVERT_ON` (D22). -/
  invertOn : Bool := true
  /-- `MADCTL_DEFAULT` (D18). -/
  madctlDefault : Byte := 0x00
  /-- `T_BUS_TIMEOUT` (ms), OPEN (D7). -/
  tBusTimeout : Nat
  /-- `WIRE_BIT_ORDER`, OPEN (D2). -/
  wireBitOrder : BitOrder
  /-- `PWM_PERIOD_COUNTS`, OPEN (D33). -/
  pwmPeriodCounts : Nat
  /-- `PWM_FREQ_HZ`, OPEN (D33). -/
  pwmFreqHz : Nat
  /-- `BL_ACTIVE_HIGH`, OPEN (D33). -/
  blActiveHigh : Bool
  deriving DecidableEq, Repr

/-- Free value (log 12): the environment's decision number `n` once the listed ones are used up (R96). -/
opaque Config.freeBus : Nat → BusChoice

/-- Free value (log 13): amount of time number `n` once the listed ones are used up (R183). -/
opaque Config.freeTick : Nat → Nat

/-- Free value (log 24): the backlight level at a time, before the channel is configured (R29, R167). -/
opaque Config.freeLevel : Nat → Level

/-- OPEN (log 2): `T_BUS_TIMEOUT`, less one. -/
opaque Config.openBusTimeout : Nat

/-- OPEN (log 2): `WIRE_BIT_ORDER`. -/
opaque Config.openBitOrder : BitOrder

/-- OPEN (log 2): by how much `PWM_PERIOD_COUNTS` exceeds `DUTY_MAX`. -/
opaque Config.openPeriodExcess : Nat

/-- OPEN (log 2): `PWM_FREQ_HZ`, less one. -/
opaque Config.openFreq : Nat

/-- OPEN (log 2): `BL_ACTIVE_HIGH`. -/
opaque Config.openActiveHigh : Bool

/-- The parameters of State.reset: the spec's defaults, and for each OPEN one a constant of which only
the constraint of R9 is known. -/
def Config.machine : Config where
  tBusTimeout := Config.openBusTimeout + 1
  wireBitOrder := Config.openBitOrder
  pwmPeriodCounts := 255 + Config.openPeriodExcess
  pwmFreqHz := Config.openFreq + 1
  blActiveHigh := Config.openActiveHigh

end Sys2Proof
end

