-- ==== Sys2Proof/Syntax.lean ====
section
/-! DEFINITION. The instructions (bus words, one constructor per row of the opcode table), command frames, and the host operations with the caller's calls. -/

namespace Sys2Proof

/-- The bus words with a meaning: the eleven rows of the opcode table (R84). -/
inductive Instr where
  | swreset         -- SWRESET 0x001 (R130)
  | slpout          -- SLPOUT  0x011 (R131)
  | noron           -- NORON   0x013 (R135)
  | invon           -- INVON   0x021 (R134)
  | caset           -- CASET   0x02A (R111)
  | raset           -- RASET   0x02B (R113)
  | ramwr           -- RAMWR   0x02C (R114)
  | dispon          -- DISPON  0x029 (R136)
  | madctl          -- MADCTL  0x036 (R133)
  | colmod          -- COLMOD  0x03A (R132)
  | data (b : Byte) -- DATA    0x1bb (R100)
  deriving DecidableEq, Repr

/-- The commands that take parameter bytes (R76). -/
inductive ParamCmd where
  | caset
  | raset
  | madctl
  | colmod
  deriving DecidableEq, Repr

/-- A command frame: a command word and the bytes of the data words that follow it (R75). -/
structure Frame where
  cmd : Instr
  payload : List Byte
  deriving DecidableEq, Repr

/-- The host operations (R90). -/
inductive HostOp where
  | sendCommand (b : Byte)
  | sendData (b : Byte)
  | sendDataBlock (bytes : List Byte) (length : Nat)
  | setWindow (x1 y1 x2 y2 : Int)
  | driveReset (level : Level)
  | delay (ms : Nat)
  | bringUp
  | drawPixel (x y : Int) (c : Half)
  | fillRect (x y w h : Int) (c : Half)
  | fillScreen (c : Half)
  | flush (x1 y1 x2 y2 : Int) (buf : List Half)
  | setBacklight (p : Nat)
  deriving DecidableEq, Repr

/-- A call by the owner of the session. With `overlap = none` it waits until the operation in progress has
returned; with `overlap = some n` it does not wait, and comes `n` host steps into that operation (R180, log 16). -/
structure Call where
  op : HostOp
  overlap : Option Nat := none
  deriving DecidableEq, Repr

end Sys2Proof
end

