-- ==== Sys2Proof/WellFormed.lean ====
section
/-! DEFINITION. Well-formedness of what is built before the machine runs: parameters (R9), command frames (R75, R76). Every instruction is well formed: a command word has no field and a data word takes any byte (R84). -/

namespace Sys2Proof

/-- `nparams(op)` of R76 for the commands that take parameters. -/
def ParamCmd.nparams : ParamCmd → Nat
  | .caset => 4
  | .raset => 4
  | .madctl => 1
  | .colmod => 1

/-- The payload a frame of this command word has (R75, R76). -/
inductive PayloadShape where
  | bytes (n : Nat)  -- exactly `n` parameter bytes
  | stream           -- RAMWR: any even number of pixel bytes
  | notCommand       -- DATA opens no frame
  deriving DecidableEq, Repr

/-- The table of R76. -/
def Instr.payloadShape : Instr → PayloadShape
  | .swreset => .bytes 0
  | .slpout => .bytes 0
  | .noron => .bytes 0
  | .invon => .bytes 0
  | .caset => .bytes 4
  | .raset => .bytes 4
  | .ramwr => .stream
  | .dispon => .bytes 0
  | .madctl => .bytes 1
  | .colmod => .bytes 1
  | .data _ => .notCommand

/-- Every instruction is well formed (R84: no field but the data byte, which may be any byte). -/
def Instr.wf (_ : Instr) : Bool := true

/-- A frame is one command word and exactly its parameters, or an even pixel stream (R75). The bound of two
bytes per window cell depends on the machine's state and is RAMWR's, not the frame's (R117). -/
def Frame.wf (f : Frame) : Bool :=
  match f.cmd.payloadShape with
  | .bytes n => f.payload.length == n
  | .stream => f.payload.length % 2 == 0
  | .notCommand => false

/-- The constraints on the parameters (R9, D27; R160 and R165 for the PWM period). -/
def Config.wf (c : Config) : Bool :=
  decide (1 ≤ c.w) && decide (c.w ≤ 65536) && decide (1 ≤ c.h) && decide (c.h ≤ 65536) &&
  decide (2 ≤ c.chunkBytes) && decide (c.chunkBytes % 2 = 0) && decide (1 ≤ c.dutyMax) &&
  decide (1 ≤ c.tBusTimeout) && decide (c.dutyMax ≤ c.pwmPeriodCounts) && decide (1 ≤ c.pwmFreqHz)

end Sys2Proof
end

