-- ==== Sys2Proof/Decode.lean ====
section
/-! DEFINITION. The decoder of bus words, total, with "unknown command" as its own verdict (R73, R84, R88); the encoder; command frames as words (R75). -/

namespace Sys2Proof

/-- The bus word of a line level and a byte (R73). -/
def busWord (dc : Level) (b : Byte) : BusWord := BitVec.ofBool dc ++ b

/-- Bit 8 of a bus word: the control-line level (R73). -/
def wordDc (w : BusWord) : Level := w.getLsbD 8

/-- Bits 7:0 of a bus word: the byte (R73). -/
def wordByte (w : BusWord) : Byte := w.setWidth 8

/-- What the decoder answers: an instruction, or the verdict "unknown command" with its byte (R85, R88). -/
inductive Decoded where
  | known (i : Instr)
  | unknown (b : Byte)
  deriving DecidableEq, Repr

/-- A row of the opcode table: a word `w` is the row's when `w &&& mask = pattern` (R84). -/
structure OpRow where
  pattern : BusWord
  mask : BusWord
  instr : Byte → Instr

/-- The opcode table (R84), in the order of spec/opcode_table.json. -/
def opTable : List OpRow := [
  { pattern := 0x001, mask := 0x1FF, instr := fun _ => .swreset },
  { pattern := 0x011, mask := 0x1FF, instr := fun _ => .slpout },
  { pattern := 0x013, mask := 0x1FF, instr := fun _ => .noron },
  { pattern := 0x021, mask := 0x1FF, instr := fun _ => .invon },
  { pattern := 0x02A, mask := 0x1FF, instr := fun _ => .caset },
  { pattern := 0x02B, mask := 0x1FF, instr := fun _ => .raset },
  { pattern := 0x02C, mask := 0x1FF, instr := fun _ => .ramwr },
  { pattern := 0x029, mask := 0x1FF, instr := fun _ => .dispon },
  { pattern := 0x036, mask := 0x1FF, instr := fun _ => .madctl },
  { pattern := 0x03A, mask := 0x1FF, instr := fun _ => .colmod },
  { pattern := 0x100, mask := 0x100, instr := fun b => .data b }]

/-- The first row of a table that a word matches; a word of no row is an unknown command (R85). -/
def lookupRow : List OpRow → BusWord → Decoded
  | [], w => .unknown (wordByte w)
  | r :: rest, w => if w &&& r.mask = r.pattern then .known (r.instr (wordByte w)) else lookupRow rest w

/-- The decoder of bus words: total on all 512 (R88). -/
def decode (w : BusWord) : Decoded := lookupRow opTable w

/-- The encoder, written from the opcode table (R84). -/
def encode : Instr → BusWord
  | .swreset => 0x001
  | .slpout => 0x011
  | .noron => 0x013
  | .invon => 0x021
  | .caset => 0x02A
  | .raset => 0x02B
  | .ramwr => 0x02C
  | .dispon => 0x029
  | .madctl => 0x036
  | .colmod => 0x03A
  | .data b => busWord true b

/-- The opcode byte of a command that takes parameters. -/
def ParamCmd.opcode : ParamCmd → Byte
  | .caset => 0x2A
  | .raset => 0x2B
  | .madctl => 0x36
  | .colmod => 0x3A

/-- The instruction the decoder reads from the table's number `w`: bit 8 is `dc`, bits 7:0 the byte, and a
number with a higher bit set is no bus word (R73; log 22). -/
def decodeTableWord (_nbits w : Nat) : Option Instr :=
  if w < 512 then
    match decode (BitVec.ofNat 9 w) with
    | .known i => some i
    | .unknown _ => none
  else none

/-- The words of a frame: its command word, then a data word for each byte (R75). -/
def Frame.encode (f : Frame) : List BusWord := Sys2Proof.encode f.cmd :: f.payload.map (busWord true)

/-- Why a list of words does not begin with a frame. -/
inductive FrameError where
  | empty                                  -- no word
  | unknownCommand (b : Byte)              -- R85
  | dataFirst (b : Byte)                   -- a data word with no command open
  | incomplete (cmd : Instr) (count : Nat) -- fewer data words than the command takes
  | halfPixel (count : Nat)                -- an odd number of pixel bytes
  deriving DecidableEq, Repr

/-- The data words at the front of a list, as bytes, and what is left. -/
def takeData : List BusWord → List Byte × List BusWord
  | [] => ([], [])
  | w :: rest => if wordDc w then (wordByte w :: (takeData rest).1, (takeData rest).2) else ([], w :: rest)

/-- At most `n` data words at the front of a list, as bytes, and what is left. -/
def takeParams : Nat → List BusWord → List Byte × List BusWord
  | 0, ws => ([], ws)
  | _ + 1, [] => ([], [])
  | n + 1, w :: rest =>
    if wordDc w then (wordByte w :: (takeParams n rest).1, (takeParams n rest).2) else ([], w :: rest)

/-- The first frame of a list of words and the words after it (R75, R76). -/
def decodeFrame : List BusWord → Except FrameError (Frame × List BusWord)
  | [] => .error .empty
  | w :: rest =>
    match decode w with
    | .unknown b => .error (.unknownCommand b)
    | .known i =>
      match i.payloadShape with
      | .notCommand => .error (.dataFirst (wordByte w))
      | .bytes n =>
        if (takeParams n rest).1.length = n then .ok ({ cmd := i, payload := (takeParams n rest).1 }, (takeParams n rest).2)
        else .error (.incomplete i (takeParams n rest).1.length)
      | .stream =>
        if (takeData rest).1.length % 2 = 0 then .ok ({ cmd := i, payload := (takeData rest).1 }, (takeData rest).2)
        else .error (.halfPixel (takeData rest).1.length)

end Sys2Proof
end

