-- ==== Sys2Proof/Machine/State.lean ====
section
/-! DEFINITION. The state of one Controller Session (R23): every piece of state of 10_state.md, the faults of R170, the statuses of R169, the trace of R30; beside it the run's arguments (R52) and the inputs of the other agents (R15). Plain data only. -/

namespace Sys2Proof.Machine

/-- The command parser (R31). -/
inductive Parser where
  | unknown                                     -- not reset since power-on
  | idle                                        -- no command is open
  | params (op : ParamCmd) (args : List Byte)   -- `op` is open and has received `args`
  | memwrite                                    -- memory write is open
  deriving DecidableEq, Repr

/-- The bring-up state machine (R27); `bringup k` has `k` in 1..9. -/
inductive Fsm where
  | uninit
  | bringup (k : Nat)
  | ready
  | failed
  deriving DecidableEq, Repr

/-- The status a host operation returns (R169). -/
inductive Status where
  | ok
  | bus (e : BusError)         -- `BUS_FAIL`, `BUS_TIMEOUT`
  | initFailed (e : BusError)  -- `INIT_FAILED(cause)`
  deriving DecidableEq, Repr

/-- The faults F1 to F19 with the information each records (R170). Raising one is `raise` in Machine/Ops.lean. -/
inductive Raised where
  /-- F1 `NOT_RESET`: word delivered before the controller's first reset. -/
  | notReset (dc : Level) (b : Byte)
  /-- F2 `BUS_DURING_RESET`: word delivered while the reset line is low. -/
  | busDuringReset (dc : Level) (b : Byte)
  /-- F3 `RESET_PULSE_SHORT`: reset released too early, with the pulse length. -/
  | resetPulseShort (len : Nat)
  /-- F4 `SETTLE_VIOLATION`: word delivered at `time`, before `gate`. -/
  | settleViolation (dc : Level) (b : Byte) (time gate : Nat)
  /-- F5 `UNKNOWN_COMMAND`. -/
  | unknownCommand (b : Byte)
  /-- F6 `UNEXPECTED_DATA`: data word with no open command. -/
  | unexpectedData (b : Byte)
  /-- F7 `INCOMPLETE_PARAMS`: the open command and how many bytes it had. -/
  | incompleteParams (op : ParamCmd) (count : Nat)
  /-- F8 `PARTIAL_PIXEL`: the cursor at the half pixel. -/
  | partialPixel (cx cy : Option Half)
  /-- F9 `WINDOW_INVALID`: the window registers, `none` where unknown. -/
  | windowInvalid (xs xe ys ye : Option Half)
  /-- F10 `WINDOW_OVERRUN`: pixel byte after the window is full. -/
  | windowOverrun (b : Byte)
  /-- F11 `FORMAT_UNSUPPORTED`: the format and orientation registers. -/
  | formatUnsupported (colmod madctl : Option Byte)
  /-- F12 `WRITE_WHILE_SLEEP`. -/
  | writeWhileSleep
  /-- F13 `NOT_READY`: drawing operation outside `READY`. -/
  | notReady (op : HostOp) (fsm : Fsm)
  /-- F14 `SET_WINDOW_ARGS`: the bounds as given. -/
  | setWindowArgs (x1 y1 x2 y2 : Int)
  /-- F15 `FLUSH_REGION_INVALID`: the region, the buffer's length, and the pixel count when it is the
  buffer that is too short (R156; log 23). -/
  | flushRegionInvalid (x1 y1 x2 y2 : Int) (len : Nat) (need : Option Nat)
  /-- F16 `BL_RANGE`. -/
  | blRange (p : Nat)
  /-- F17 `BL_NOT_CONFIGURED`. -/
  | blNotConfigured (p : Nat)
  /-- F18 `CONCURRENT_ACCESS`: the operation in progress and the one started beside it. -/
  | concurrentAccess (running started : HostOp)
  /-- F19 `BUS_LENGTH`: the length asked for and the buffer's size. -/
  | busLength (length size : Nat)
  deriving DecidableEq, Repr

/-- An entry of the trace (R30). -/
inductive Event where
  | word (t : Nat) (dc : Level) (b : Byte) (txn : Nat)
  | resetEdge (t : Nat) (level : Level)
  | duty (t : Nat) (code : Nat)
  | flushDone (t : Nat) (status : Status)
  deriving DecidableEq, Repr

/-- What is left to do of a host operation: the calls its pseudocode makes (R91, R138), in order (log 17). -/
inductive Task where
  | command (b : Byte)                          -- `send_command` (R102)
  | data (b : Byte)                             -- `send_data` (R103)
  | block (bytes : List Byte) (length : Nat)    -- `send_data_block` (R104)
  | window (x1 y1 x2 y2 : Int)                  -- `set_window` (R119)
  | fill (c : Half) (total : Nat)               -- the loop of `fill_rect` with `total` bytes left (R151)
  | driveReset (level : Level)                  -- `DriveReset` (R125)
  | delay (ms : Nat)                            -- `Delay` (R126)
  | hold                                        -- held until `wake_at` (R126)
  | phase (k : Nat)                             -- `fsm <- BRINGUP(k)` (R138)
  | configureBacklight                          -- `BacklightConfigure` (R159)
  | setBacklight (p : Nat)                      -- `set_backlight` (R161)
  deriving DecidableEq, Repr

/-- A transaction in progress (R95): its control-line level, the bytes still to be delivered, how it will
end (`none` is `OK`), and when it began. -/
structure Xfer where
  dc : Level
  words : List Byte
  error : Option BusError
  start : Nat
  deriving DecidableEq, Repr

/-- The host side (R25 to R29); the last four fields are the operation in progress (R26, R95) and what the last
one returned (R169). -/
structure HostSide where
  dc : Option Level
  rstN : Option Level
  rstLowSince : Option Nat
  op : Option HostOp
  fsm : Fsm
  now : Nat
  wakeAt : Nat
  blCfg : Bool
  blDuty : Option Nat
  tasks : List Task
  xfer : Option Xfer
  txn : Nat
  status : Option Status
  deriving DecidableEq, Repr

/-- The frame memory as bytes (R40, R56; log 4): strictly rising addresses, and an unlisted address holds no value. -/
abbrev Memory := List Host.Cell

/-- The controller side (R31 to R40). `none` is the spec's `⊥` (R13). -/
structure Controller where
  parser : Parser
  xs : Option Half
  xe : Option Half
  ys : Option Half
  ye : Option Half
  cx : Option Half
  cy : Option Half
  exhausted : Bool
  pend : Option Byte
  madctl : Option Byte
  colmod : Option Byte
  sleepOut : Option Bool
  normalOn : Option Bool
  invOn : Option Bool
  dispOn : Option Bool
  settleUntil : Nat
  fb : Memory
  deriving DecidableEq, Repr

/-- The inputs of the machine: the caller's calls (R191), the bus environment's decisions (R96), the amounts of
time that pass (R183); the counter the free values are applied to; the time that passes before the next host step. -/
structure Env where
  calls : List Call
  bus : List BusChoice
  ticks : List Nat
  draws : Nat
  slack : Nat
  deriving DecidableEq, Repr

/-- The state of one session (R23), with the run's arguments (R52, log 1) and inputs. -/
structure State where
  host : HostSide
  ctl : Controller
  faults : List Raised
  trace : List Event
  cfg : Config
  env : Env
  deriving DecidableEq, Repr

/-- Why the machine stops. -/
inductive Fault where
  /-- By every step of a state that holds a fault: the host agent has stopped (R173). Safe. -/
  | stopped (f : Raised)
  /-- By DATA in an open memory write whose cursor or window is unknown; no run reaches it. Safe. -/
  | cursorLost
  /-- By DATA at a cursor outside the frame memory, a cell that does not exist (R55); no run reaches it. Safe. -/
  | noSuchCell (x y : Nat)
  /-- By DATA when the parser holds more parameters than its command takes (R31); no run reaches it. Safe. -/
  | parserOverfull (op : ParamCmd) (count : Nat)
  /-- By a reset release when the time of the falling edge is unknown (R25); no run reaches it. Safe. -/
  | resetTimeLost
  /-- By `bring_up` started while bring-up is in a step (R138 requires otherwise); no run reaches it. Safe. -/
  | bringUpNested (k : Nat)
  deriving DecidableEq, Repr

/-- Why the machine gives an instruction no meaning. -/
inductive Refusal where
  /-- By an arm of exec whose instruction has no meaning yet; no arm is so now. Safe. -/
  | notModelled (mnemonic : String)
  deriving DecidableEq, Repr

/-- The outcomes of a step of this machine. -/
abbrev Result := Host.Outcome State Fault Refusal

/-- The host side at power-on (R46); of the last four fields the spec states no value (log 20, 21). -/
def HostSide.powerOn : HostSide where
  dc := none
  rstN := none
  rstLowSince := none
  op := none
  fsm := .uninit
  now := 0
  wakeAt := 0
  blCfg := false
  blDuty := none
  tasks := []
  xfer := none
  txn := 0
  status := none

/-- The controller side at power-on (R47). -/
def Controller.powerOn : Controller where
  parser := .unknown
  xs := none
  xe := none
  ys := none
  ye := none
  cx := none
  cy := none
  exhausted := false
  pend := none
  madctl := none
  colmod := none
  sleepOut := none
  normalOn := none
  invOn := none
  dispOn := none
  settleUntil := 0
  fb := []

/-- No input is listed (log 21). -/
def Env.empty : Env where
  calls := []
  bus := []
  ticks := []
  draws := 0
  slack := 0

/-- The machine at power-on: the first column of the reset table (R189; log 7). -/
def State.reset : State where
  host := HostSide.powerOn
  ctl := Controller.powerOn
  faults := []
  trace := []
  cfg := Config.machine
  env := Env.empty

end Sys2Proof.Machine
end

