-- ==== Sys2Proof/Machine/Operands.lean ====
section
/-! DEFINITION. Operand forms: big-endian halves (R54, R79), window legality and clipping (R114, R120, R151), pixel patterns (R82, R152, R156), the duty map (R162). -/

namespace Sys2Proof.Machine

/-- `hi8(v) = v[15:8]` (R11). -/
def hi8 (v : Half) : Byte := v.extractLsb' 8 8

/-- `lo8(v) = v[7:0]` (R11). -/
def lo8 (v : Half) : Byte := v.extractLsb' 0 8

/-- `{h, l} = h * 256 + l` (R11, R79). -/
def join16 (h l : Byte) : Half := h ++ l

/-- A host coordinate as the 16 bits that travel (R79); exact for 0 ≤ v ≤ 65535. -/
def coord (v : Int) : Half := BitVec.ofInt 16 v

/-- The window check of RAMWR: `xs ≤ xe < W` and `ys ≤ ye < H` (R114). -/
def windowLegal (c : Config) (xs xe ys ye : Half) : Bool :=
  decide (xs.toNat ≤ xe.toNat) && decide (xe.toNat < c.w) &&
  decide (ys.toNat ≤ ye.toNat) && decide (ye.toNat < c.h)

/-- `x2c = min(x2, W - 1)` (R120). -/
def clipX2 (c : Config) (x2 : Int) : Int := min x2 ((c.w : Int) - 1)

/-- `y2c = min(y2, H - 1)` (R120). -/
def clipY2 (c : Config) (y2 : Int) : Int := min y2 ((c.h : Int) - 1)

/-- The precondition of `set_window` after the clip (R119, R120). -/
def windowArgsOk (c : Config) (x1 y1 x2 y2 : Int) : Bool :=
  decide (0 ≤ x1) && decide (x1 ≤ clipX2 c x2) && decide (0 ≤ y1) && decide (y1 ≤ clipY2 c y2)

/-- Whether a point lies on the display (R149). -/
def onDisplay (c : Config) (x y : Int) : Bool :=
  decide (0 ≤ x) && decide (x < c.w) && decide (0 ≤ y) && decide (y < c.h)

/-- The region check of `flush` (R156). -/
def flushRegionOk (c : Config) (x1 y1 x2 y2 : Int) : Bool :=
  decide (0 ≤ x1) && decide (x1 ≤ x2) && decide (x2 < c.w) &&
  decide (0 ≤ y1) && decide (y1 ≤ y2) && decide (y2 < c.h)

/-- The pixel count of a region with inclusive bounds (R156). -/
def regionPixels (x1 y1 x2 y2 : Int) : Nat := ((x2 - x1 + 1) * (y2 - y1 + 1)).toNat

/-- The exclusive end of a clipped side: `min(x + w, W)` (R151). -/
def clipEnd (start size bound : Int) : Int := min (start + size) bound

/-- `Pattern(c)`: byte `2i` is `hi8(c)` and byte `2i+1` is `lo8(c)` (R152). -/
def pattern (c : Half) (n : Nat) : List Byte :=
  (List.range n).map (fun i => if i % 2 = 0 then hi8 c else lo8 c)

/-- The bytes of a pixel buffer, each pixel high byte first (R82, R156). -/
def pixelBytes (buf : List Half) : List Byte := buf.flatMap (fun v => [hi8 v, lo8 v])

/-- `duty(p) = (p * DUTY_MAX) div 100` (R162). -/
def dutyOf (c : Config) (p : Nat) : Nat := p * c.dutyMax / 100

/-- The address of the first byte of frame-memory cell `(x, y)` (R55; log 4). -/
def cellAddr (c : Config) (x y : Nat) : Nat := 2 * (y * c.w + x)

/-- The window of four parameter bytes of CASET or RASET: `({p1, p2}, {p3, p4})` (R77, R78). -/
def boundsOf (p1 p2 p3 p4 : Byte) : Half × Half := (join16 p1 p2, join16 p3 p4)

end Sys2Proof.Machine
end

