-- ==== Sys2Proof/Machine/Ops.lean ====
section
/-! DEFINITION. The shared operations: frame memory, updates of each part of the state, raising a fault (R173), time (R183), the environment's decisions (R96), word delivery (R98), the frame check of command words (R99), reset of the controller (R48). -/

namespace Sys2Proof.Machine

/-- The canonical form of a memory: strictly rising addresses. An unlisted address holds no value, so no listed
entry can equal what it reads as. -/
abbrev Memory.wf (m : Memory) : Prop := m.Pairwise (fun p q => p.1 < q.1)

/-- One byte of memory; `none` where nothing has been written since the last reset (R40). -/
def memRead : Memory → Nat → Option Byte
  | [], _ => none
  | (a, v) :: m, k => if k = a then some v else memRead m k

/-- Write one byte, keeping the addresses rising. -/
def memWrite : Memory → Nat → Byte → Memory
  | [], k, b => [(k, b)]
  | (a, v) :: m, k, b =>
    if k < a then (k, b) :: (a, v) :: m
    else if k = a then (k, b) :: m
    else (a, v) :: memWrite m k b

/-- `s.ctl.fb(x, y)` (R40): a value where both bytes of the cell are written. -/
def fbRead (c : Config) (m : Memory) (x y : Nat) : Option Half :=
  match memRead m (cellAddr c x y), memRead m (cellAddr c x y + 1) with
  | some h, some l => some (join16 h l)
  | _, _ => none

/-- `FbWrite(x, y, v)` (R57): both bytes of the cell at once. -/
def fbWrite (c : Config) (m : Memory) (x y : Nat) (v : Half) : Memory :=
  memWrite (memWrite m (cellAddr c x y) (hi8 v)) (cellAddr c x y + 1) (lo8 v)

/-- Replace the host side. -/
def State.setHost (s : State) (h : HostSide) : State := { s with host := h }
/-- Replace the controller side. -/
def State.setCtl (s : State) (c : Controller) : State := { s with ctl := c }
/-- Replace the inputs. -/
def State.setEnv (s : State) (e : Env) : State := { s with env := e }
/-- Append an event to the trace (R30). -/
def State.addEvent (s : State) (e : Event) : State := { s with trace := s.trace ++ [e] }

/-- A fault set with one more fault: a list without repeats (R30 "only grows"). -/
def insertFault (fs : List Raised) (f : Raised) : List Raised := if f ∈ fs then fs else fs ++ [f]
/-- Record a fault in the sticky fault set (R173). -/
def State.addFault (s : State) (f : Raised) : State := { s with faults := insertFault s.faults f }

/-- Set the control line (R94). -/
def HostSide.setDc (h : HostSide) (l : Level) : HostSide := { h with dc := some l }
/-- Set the reset line and the time of its falling edge (R25, R125). -/
def HostSide.setRst (h : HostSide) (l : Level) (since : Option Nat) : HostSide :=
  { h with rstN := some l, rstLowSince := since }
/-- Set the operation in progress (R26). -/
def HostSide.setOp (h : HostSide) (op : Option HostOp) : HostSide := { h with op := op }
/-- Set the bring-up state (R27). -/
def HostSide.setFsm (h : HostSide) (f : Fsm) : HostSide := { h with fsm := f }
/-- Set the clock (R28). -/
def HostSide.setNow (h : HostSide) (t : Nat) : HostSide := { h with now := t }
/-- Set the end of a delay (R28). -/
def HostSide.setWakeAt (h : HostSide) (t : Nat) : HostSide := { h with wakeAt := t }
/-- Set the committed duty code (R160). -/
def HostSide.setDuty (h : HostSide) (d : Nat) : HostSide := { h with blDuty := some d }
/-- Set the steps left of the operation in progress. -/
def HostSide.setTasks (h : HostSide) (ts : List Task) : HostSide := { h with tasks := ts }
/-- Set the transaction in progress (R95). -/
def HostSide.setXfer (h : HostSide) (x : Option Xfer) : HostSide := { h with xfer := x }
/-- Number a fresh transaction (R95); DESIGN CHOICE (log 20): the next number. -/
def HostSide.nextTxn (h : HostSide) : HostSide := { h with txn := h.txn + 1 }
/-- Set what the last operation returned (R169). -/
def HostSide.setStatus (h : HostSide) (st : Status) : HostSide := { h with status := some st }

/-- Set the parser (R31). -/
def Controller.setParser (c : Controller) (p : Parser) : Controller := { c with parser := p }
/-- Set the column registers (R111). -/
def Controller.setColumns (c : Controller) (b : Half × Half) : Controller := { c with xs := some b.1, xe := some b.2 }
/-- Set the row registers (R113). -/
def Controller.setRows (c : Controller) (b : Half × Half) : Controller := { c with ys := some b.1, ye := some b.2 }
/-- Set the cursor (R34). -/
def Controller.setCursor (c : Controller) (x y : Half) : Controller := { c with cx := some x, cy := some y }
/-- Say whether the window is full (R34). -/
def Controller.setExhausted (c : Controller) (e : Bool) : Controller := { c with exhausted := e }
/-- Set the pending high byte (R35). -/
def Controller.setPend (c : Controller) (p : Option Byte) : Controller := { c with pend := p }
/-- Store MADCTL's parameter (R36). -/
def Controller.setMadctl (c : Controller) (m : Byte) : Controller := { c with madctl := some m }
/-- Store COLMOD's parameter (R37). -/
def Controller.setColmod (c : Controller) (p : Byte) : Controller := { c with colmod := some p }
/-- Set the settle gate (R39). -/
def Controller.setSettle (c : Controller) (t : Nat) : Controller := { c with settleUntil := t }
/-- Set the frame memory (R40). -/
def Controller.setFb (c : Controller) (m : Memory) : Controller := { c with fb := m }

/-- The controller reset state `ResetState` (R48). The settle gate is "set by the rule that performed the reset",
so it stays here (R189 column `rst_n = 0`; log 11). -/
def Controller.toReset (c : Controller) : Controller where
  parser := .idle
  xs := none
  xe := none
  ys := none
  ye := none
  cx := none
  cy := none
  exhausted := false
  pend := none
  madctl := none
  colmod := none
  sleepOut := some false
  normalOn := none
  invOn := none
  dispOn := none
  settleUntil := c.settleUntil
  fb := []

/-- `raise <Fault>(info)` (R173): the block's one kind of exception. It records the fault; the host agent has
stopped from then on (Machine/Session.lean: every later step stops). There is no handler, no saved state and no return (R177, R178). -/
def raise (f : Raised) (s : State) : Result := .next (s.addFault f)

/-- `Tick(d)` (R183): the only operation that changes `now`. -/
def tick (d : Nat) (s : State) : State := s.setHost (s.host.setNow (s.host.now + d))

/-- The environment's next decision (R96): the first listed one, else a free value (log 12). DESIGN CHOICE (log 30): two
sessions with no decision listed and equal `draws` get the same one. -/
def Env.nextBus (e : Env) : BusChoice :=
  match e.bus with
  | c :: _ => c
  | [] => Config.freeBus e.draws

/-- The inputs after that decision is taken. -/
def Env.dropBus (e : Env) : Env :=
  match e.bus with
  | _ :: rest => { e with bus := rest }
  | [] => { e with draws := e.draws + 1 }

/-- The next amount of time (R183): the first listed one, else a free value (log 13). DESIGN CHOICE (log 30): two
sessions with no amount listed and equal `draws` get the same one. -/
def Env.nextTick (e : Env) : Nat :=
  match e.ticks with
  | d :: _ => d
  | [] => Config.freeTick e.draws

/-- The inputs after that amount is taken. -/
def Env.dropTick (e : Env) : Env :=
  match e.ticks with
  | _ :: rest => { e with ticks := rest }
  | [] => { e with draws := e.draws + 1 }

/-- Draw the time that passes before the next host step; zero is no `Tick` (R183; log 13). -/
def drawSlack (s : State) : State := s.setEnv { s.env.dropTick with slack := s.env.nextTick }

/-- Let the drawn time pass. -/
def spendSlack (s : State) : State := tick s.env.slack (s.setEnv { s.env with slack := 0 })

/-- A `Tick` of at least one millisecond while the host is held or idle (R126, R183; log 14). -/
def waitTick (s : State) : State := tick (s.env.nextTick + 1) (s.setEnv s.env.dropTick)

/-- The trace entry of a word delivered now (R98). -/
def wordEvent (w : BusWord) (s : State) : Event := .word s.host.now (wordDc w) (wordByte w) s.host.txn

/-- The state once a word was on the bus (R98). -/
def logWord (w : BusWord) (s : State) : State := s.addEvent (wordEvent w s)

/-- Word delivery `Deliver(dc, b)` (R98): the word is on the bus, then the three checks in order, then what the
parser does with it. -/
def deliver (w : BusWord) (body : State → Result) (s : State) : Result :=
  if s.host.rstN = some false then raise (.busDuringReset (wordDc w) (wordByte w)) (logWord w s)
  else if s.ctl.parser = .unknown then raise (.notReset (wordDc w) (wordByte w)) (logWord w s)
  else if s.host.now < s.ctl.settleUntil then
    raise (.settleViolation (wordDc w) (wordByte w) s.host.now s.ctl.settleUntil) (logWord w s)
  else body (logWord w s)

/-- No frame is open any more (R99): a pixel stream ends with the next command word (R118). -/
def closeStream (s : State) : State := s.setCtl (s.ctl.setParser .idle)

/-- The frame check of every command word (R99): an open parameter list or half a pixel faults; an open pixel
stream ends. The parser is not `UNKNOWN` here (R98 checks it first). -/
def closeFrame (w : BusWord) (body : State → Result) (s : State) : Result :=
  match s.ctl.parser with
  | .unknown => raise (.notReset (wordDc w) (wordByte w)) s
  | .params op args => raise (.incompleteParams op args.length) s
  | .memwrite =>
    if s.ctl.pend.isSome then raise (.partialPixel s.ctl.cx s.ctl.cy) s
    else body (closeStream s)
  | .idle => body (closeStream s)

/-- A command word delivered: the checks of R98 and R99, then its `Execute`. -/
def commandWord (i : Instr) (body : State → Result) (s : State) : Result :=
  deliver (encode i) (closeFrame (encode i) body) s

/-- `Execute` of a command that takes parameters: open its frame (R111, R113, R132, R133). -/
def openParams (op : ParamCmd) (s : State) : Result := .next (s.setCtl (s.ctl.setParser (.params op [])))

/-- A command word whose byte is outside the table (R85, R99): the frame check, then `UNKNOWN_COMMAND` (log 10). -/
def execUnknown (b : Byte) (s : State) : Result :=
  deliver (busWord false b) (closeFrame (busWord false b) (raise (.unknownCommand b))) s

end Sys2Proof.Machine
end

