-- ==== Sys2Proof/Machine/Flags.lean ====
section
/-! DEFINITION. Status bits (R42): the four mode flags (R38), and the numbering of statuses and faults (R169, R170). The block has no arithmetic flags. -/

namespace Sys2Proof.Machine

/-- `sleep_out <- some true` (R131). -/
def Controller.setSleepOut (c : Controller) : Controller := { c with sleepOut := some true }
/-- `normal_on <- some true` (R135). -/
def Controller.setNormalOn (c : Controller) : Controller := { c with normalOn := some true }
/-- `inv_on <- some true` (R134). -/
def Controller.setInvOn (c : Controller) : Controller := { c with invOn := some true }
/-- `disp_on <- some true` (R136). -/
def Controller.setDispOn (c : Controller) : Controller := { c with dispOn := some true }

/-- The PWM channel is configured (R159). -/
def HostSide.setBlCfg (h : HostSide) : HostSide := { h with blCfg := true }

/-- What every mode command does beside its flag (R131, R134 to R136): the parser is `IDLE` and the gate is set. -/
def modeEffect (c : Controller) (gate : Nat) (s : State) : State :=
  s.setCtl ((c.setParser .idle).setSettle gate)

/-- The number of a status (R169). -/
def Status.code : Status → Nat
  | .ok => 0
  | .bus .fail => 1
  | .bus .timeout => 2
  | .initFailed _ => 3

/-- The status of a transaction's end (R169). -/
def Status.ofBus : Option BusError → Status
  | none => .ok
  | some e => .bus e

/-- The number of a fault (R170). -/
def Raised.code : Raised → Nat
  | .notReset _ _ => 1
  | .busDuringReset _ _ => 2
  | .resetPulseShort _ => 3
  | .settleViolation _ _ _ _ => 4
  | .unknownCommand _ => 5
  | .unexpectedData _ => 6
  | .incompleteParams _ _ => 7
  | .partialPixel _ _ => 8
  | .windowInvalid _ _ _ _ => 9
  | .windowOverrun _ => 10
  | .formatUnsupported _ _ => 11
  | .writeWhileSleep => 12
  | .notReady _ _ => 13
  | .setWindowArgs _ _ _ _ => 14
  | .flushRegionInvalid _ _ _ _ _ _ => 15
  | .blRange _ => 16
  | .blNotConfigured _ => 17
  | .concurrentAccess _ _ => 18
  | .busLength _ _ => 19

end Sys2Proof.Machine
end

