-- ==== Sys2Proof/Machine/Bringup.lean ====
section
/-! DEFINITION. The controller commands of bring-up (R130 to R136), the reset line (R125, R127, R128), and the nine steps of bring-up (R138). -/

namespace Sys2Proof.Machine

/-- SWRESET (R130): the reset state, gated for `T_SWRESET`. -/
def execSwreset (s : State) : Result :=
  commandWord .swreset
    (fun t => .next (t.setCtl (t.ctl.toReset.setSettle (t.host.now + t.cfg.tSwreset)))) s

/-- SLPOUT (R131). -/
def execSlpout (s : State) : Result :=
  commandWord .slpout (fun t => .next (modeEffect t.ctl.setSleepOut (t.host.now + t.cfg.tSlpout) t)) s

/-- NORON (R135). -/
def execNoron (s : State) : Result :=
  commandWord .noron (fun t => .next (modeEffect t.ctl.setNormalOn (t.host.now + t.cfg.tNoron) t)) s

/-- INVON (R134). -/
def execInvon (s : State) : Result :=
  commandWord .invon (fun t => .next (modeEffect t.ctl.setInvOn (t.host.now + t.cfg.tInvon) t)) s

/-- DISPON (R136). -/
def execDispon (s : State) : Result :=
  commandWord .dispon (fun t => .next (modeEffect t.ctl.setDispOn (t.host.now + t.cfg.tDispon) t)) s

/-- MADCTL (R133): its one parameter is collected by DATA. -/
def execMadctl (s : State) : Result := commandWord .madctl (openParams .madctl) s

/-- COLMOD (R132): its one parameter is collected by DATA. -/
def execColmod (s : State) : Result := commandWord .colmod (openParams .colmod) s

/-- `DriveReset(level)` (R125). Asserting resets the controller at once; releasing needs a pulse of `T_RST_LOW`
(R128) and then sets the gate `T_RST_SETTLE` (R127); driving 1 where the line is not low is no edge. -/
def driveReset (level : Level) (s : State) : Result :=
  let t := s.addEvent (.resetEdge s.host.now level)
  match level, s.host.rstN, s.host.rstLowSince with
  | false, some false, since => .next ((t.setHost (t.host.setRst false since)).setCtl t.ctl.toReset)
  | false, _, _ => .next ((t.setHost (t.host.setRst false (some t.host.now))).setCtl t.ctl.toReset)
  | true, some false, none => .fault .resetTimeLost
  | true, some false, some since =>
    if t.host.now - since < t.cfg.tRstLow then raise (.resetPulseShort (t.host.now - since)) t
    else .next ((t.setHost (t.host.setRst true none)).setCtl
      (t.ctl.toReset.setSettle (t.host.now + t.cfg.tRstSettle)))
  | true, _, since => .next (t.setHost (t.host.setRst true since))

/-- What `bring_up` does after `fsm <- BRINGUP(1)`, step by step (R138); step 6 is the option of R146. -/
def bringUpTasks (c : Config) : List Task :=
  [.driveReset false, .delay c.tRstLow, .driveReset true, .delay c.tRstSettle,
   .phase 2, .command 0x01, .delay c.tSwreset,
   .phase 3, .command 0x11, .delay c.tSlpout,
   .phase 4, .command 0x3A, .data c.colmod16bpp,
   .phase 5, .command 0x36, .data c.madctlDefault,
   .phase 6] ++
  (if c.invertOn then [.command 0x21, .delay c.tInvon] else []) ++
  [.phase 7, .command 0x13, .delay c.tNoron,
   .phase 8, .command 0x29, .delay c.tDispon,
   .phase 9, .configureBacklight]

end Sys2Proof.Machine
end

