-- ==== Sys2Proof/Machine/Addressing.lean ====
section
/-! DEFINITION. The addressing commands (R111, R113, R114), pixel bytes and the cursor (R115 to R117), and the steps of `set_window` (R119, R120). -/

namespace Sys2Proof.Machine

/-- CASET (R111): its four parameters are collected by DATA. -/
def execCaset (s : State) : Result := commandWord .caset (openParams .caset) s

/-- RASET (R113): its four parameters are collected by DATA. -/
def execRaset (s : State) : Result := commandWord .raset (openParams .raset) s

/-- The state after a memory write opens at `(x, y)` (R114). -/
def openWrite (x y : Half) (c : Controller) : Controller :=
  (((c.setParser .memwrite).setCursor x y).setPend none).setExhausted false

/-- `Execute(0x2C)` (R114), its checks in order. -/
def ramwrEffect (s : State) : Result :=
  match s.ctl.xs, s.ctl.xe, s.ctl.ys, s.ctl.ye with
  | some xs, some xe, some ys, some ye =>
    if windowLegal s.cfg xs xe ys ye = false then raise (.windowInvalid (some xs) (some xe) (some ys) (some ye)) s
    else if s.ctl.colmod ≠ some s.cfg.colmod16bpp ∨ s.ctl.madctl ≠ some s.cfg.madctlDefault then
      raise (.formatUnsupported s.ctl.colmod s.ctl.madctl) s
    else if s.ctl.sleepOut ≠ some true then raise .writeWhileSleep s
    else .next (s.setCtl (openWrite xs ys s.ctl))
  | xs, xe, ys, ye => raise (.windowInvalid xs xe ys ye) s

/-- RAMWR (R114). -/
def execRamwr (s : State) : Result := commandWord .ramwr ramwrEffect s

/-- The cursor after a completed pixel (R116), in the window `xs..xe`, `..ye`. -/
def advance (xs xe ye cx cy : Half) (c : Controller) : Controller :=
  if cx.toNat < xe.toNat then c.setCursor (cx + 1) cy
  else if cy.toNat < ye.toNat then c.setCursor xs (cy + 1)
  else (c.setCursor xs cy).setExhausted true

/-- The low byte of a pixel (R115): the whole cell is written and the cursor advances. A cell outside the frame
memory does not exist (R55, R57). -/
def pixelLow (h l : Byte) (s : State) : Result :=
  match s.ctl.cx, s.ctl.cy, s.ctl.xs, s.ctl.xe, s.ctl.ye with
  | some cx, some cy, some xs, some xe, some ye =>
    if cx.toNat < s.cfg.w ∧ cy.toNat < s.cfg.h then
      .next (s.setCtl (advance xs xe ye cx cy
        ((s.ctl.setPend none).setFb (fbWrite s.cfg s.ctl.fb cx.toNat cy.toNat (join16 h l)))))
    else .fault (.noSuchCell cx.toNat cy.toNat)
  | _, _, _, _, _ => .fault .cursorLost

/-- `PixelByte(b)` (R115, R117). -/
def pixelByte (b : Byte) (s : State) : Result :=
  if s.ctl.exhausted then raise (.windowOverrun b) s
  else
    match s.ctl.pend with
    | none => .next (s.setCtl (s.ctl.setPend (some b)))
    | some h => pixelLow h b s

/-- The transport calls of `set_window` for clipped bounds (R119): one call per byte (D4). -/
def windowTasks (x1 y1 x2 y2 : Half) : List Task :=
  [.command 0x2A, .data (hi8 x1), .data (lo8 x1), .data (hi8 x2), .data (lo8 x2),
   .command 0x2B, .data (hi8 y1), .data (lo8 y1), .data (hi8 y2), .data (lo8 y2),
   .command 0x2C]

end Sys2Proof.Machine
end

