-- ==== Sys2Proof/Machine/DataWord.lean ====
section
/-! DEFINITION. DATA: parameter collection and commit (R101, R111, R113, R132, R133), and the data word itself (R100). -/

namespace Sys2Proof.Machine

/-- `Commit(op, args)` on the last parameter byte (R101). The parser never holds another number of bytes (R31). -/
def commitParams (op : ParamCmd) (args : List Byte) (s : State) : Result :=
  match op, args with
  | .caset, [p1, p2, p3, p4] => .next (s.setCtl (s.ctl.setColumns (boundsOf p1 p2 p3 p4)))
  | .raset, [p1, p2, p3, p4] => .next (s.setCtl (s.ctl.setRows (boundsOf p1 p2 p3 p4)))
  | .madctl, [m] => .next (s.setCtl (s.ctl.setMadctl m))
  | .colmod, [p] => .next (s.setCtl (s.ctl.setColmod p))
  | op, args => .fault (.parserOverfull op args.length)

/-- `ParamByte(op, args, b)` (R101). -/
def paramByte (op : ParamCmd) (args : List Byte) (b : Byte) (s : State) : Result :=
  if (args ++ [b]).length < op.nparams then .next (s.setCtl (s.ctl.setParser (.params op (args ++ [b]))))
  else commitParams op (args ++ [b]) (s.setCtl (s.ctl.setParser .idle))

/-- `DataWord(b)` (R100). The parser is not `UNKNOWN` here (R98 checks it first). -/
def dataWord (b : Byte) (s : State) : Result :=
  match s.ctl.parser with
  | .unknown => raise (.notReset true b) s
  | .idle => raise (.unexpectedData b) s
  | .params op args => paramByte op args b s
  | .memwrite => pixelByte b s

/-- DATA (R100). -/
def execData (b : Byte) (s : State) : Result := deliver (encode (.data b)) (dataWord b) s

end Sys2Proof.Machine
end

