-- ==== Sys2Proof/Machine/Dispatch.lean ====
section
/-! DEFINITION. Dispatch: what each bus word does when it is delivered to the controller (R98 to R100). -/

namespace Sys2Proof.Machine

def exec (i : Instr) (s : State) : Host.Outcome State Fault Refusal :=
  match i with
  | .swreset => Sys2Proof.Machine.execSwreset s
  | .slpout => Sys2Proof.Machine.execSlpout s
  | .noron => Sys2Proof.Machine.execNoron s
  | .invon => Sys2Proof.Machine.execInvon s
  | .caset => Sys2Proof.Machine.execCaset s
  | .raset => Sys2Proof.Machine.execRaset s
  | .ramwr => Sys2Proof.Machine.execRamwr s
  | .dispon => Sys2Proof.Machine.execDispon s
  | .madctl => Sys2Proof.Machine.execMadctl s
  | .colmod => Sys2Proof.Machine.execColmod s
  | .data b => Sys2Proof.Machine.execData b s

end Sys2Proof.Machine
end

