-- ==== Sys2Proof/Machine/Backlight.lean ====
section
/-! DEFINITION. The backlight channel (R158 to R167): configuration, duty commit, `set_backlight`, and the output waveform, which no rule reads (R165). -/

namespace Sys2Proof.Machine

/-- `PwmCommit(duty)` (R160). -/
def pwmCommit (d : Nat) (s : State) : State := (s.setHost (s.host.setDuty d)).addEvent (.duty s.host.now d)

/-- `BacklightConfigure()` (R159). -/
def backlightConfigure (s : State) : State := pwmCommit s.cfg.dutyMax (s.setHost s.host.setBlCfg)

/-- `set_backlight(p)` (R161, R163, R167). -/
def setBacklight (p : Nat) (s : State) : Result :=
  if s.host.blCfg = false then raise (.blNotConfigured p) s
  else if 100 < p then raise (.blRange p) s
  else .next (pwmCommit (dutyOf s.cfg p) s)

/-- The PWM counter's next value (R165): it runs through `0 .. PWM_PERIOD_COUNTS - 1`. -/
def pwmNext (c : Config) (count : Nat) : Nat := if count + 1 < c.pwmPeriodCounts then count + 1 else 0

/-- The output level while the counter reads `count` (R165): active below the duty, with the polarity of
`BL_ACTIVE_HIGH`. Before the channel is configured the level is a free value (R29, R167; log 24, 30). -/
def backlightLevel (s : State) (count : Nat) : Level :=
  match s.host.blCfg, s.host.blDuty with
  | true, some d => decide (count < d) == s.cfg.blActiveHigh
  | _, _ => Config.freeLevel s.host.now

end Sys2Proof.Machine
end

