-- ==== Sys2Proof/Machine/Transport.lean ====
section
/-! DEFINITION. The host half of the transport: transactions and their outcomes (R94 to R97), the three calls (R102 to R106), bit order on the wire (R59). -/

namespace Sys2Proof.Machine

/-- The bytes of a transaction that reach the controller (R95, R97): all of them, or on an error the first `k`
and then, if bytes were left, at most one corrupted byte (log 27). -/
def deliveredBytes (bytes : List Byte) : BusChoice → List Byte
  | .ok => bytes
  | .error _ k bad => bytes.take k ++ (if k < bytes.length then bad.toList else [])

/-- How the environment's decision ends a transaction (R96). -/
def choiceError : BusChoice → Option BusError
  | .ok => none
  | .error e _ _ => some e

/-- Begin `Transfer(dc, bytes)` (R95): the control line, a fresh number, the environment's decision. The words are
then delivered one a step (Machine/Session.lean). -/
def beginTransfer (dc : Level) (bytes : List Byte) (s : State) : State :=
  (s.setHost (((s.host.setDc dc).nextTxn).setXfer
    (some { dc := dc, words := deliveredBytes bytes s.env.nextBus, error := choiceError s.env.nextBus, start := s.host.now }))).setEnv
    s.env.dropBus

/-- `send_command(b)` inside an operation (R102). -/
def sendCommand (b : Byte) (s : State) : Result := .next (beginTransfer false [b] s)

/-- `send_data(b)` inside an operation (R103). -/
def sendData (b : Byte) (s : State) : Result := .next (beginTransfer true [b] s)

/-- `send_data_block(bytes, length)` inside an operation (R104 to R106). -/
def sendDataBlock (bytes : List Byte) (length : Nat) (s : State) : Result :=
  if bytes.length < length then raise (.busLength length bytes.length) s
  else if length = 0 then .next s
  else .next (beginTransfer true (bytes.take length) s)

/-- The bits of a byte in the order they travel (R59); no rule reads it. -/
def wireBits (o : BitOrder) (b : Byte) : List Bool :=
  match o with
  | .msbFirst => (List.range 8).map (fun i => b.getLsbD (7 - i))
  | .lsbFirst => (List.range 8).map (fun i => b.getLsbD i)

end Sys2Proof.Machine
end

