-- ==== Sys2Proof/Machine/HostOps.lean ====
section
/-! DEFINITION. The host operations (R90): what each starts with, the steps it is made of (R91), and how it returns (R171). -/

namespace Sys2Proof.Machine

/-- The operations that need `READY` (R147). -/
def isDrawing : HostOp → Bool
  | .drawPixel _ _ _ => true
  | .fillRect _ _ _ _ _ => true
  | .fillScreen _ => true
  | .flush _ _ _ _ _ => true
  | _ => false

/-- The steps of `fill_rect` (R151): clip on all four sides, then one window and the fill loop; nothing where
nothing is visible. -/
def fillPlan (c : Config) (x y w h : Int) (colour : Half) : List Task :=
  let xa := max x 0
  let ya := max y 0
  let xb := clipEnd x w c.w
  let yb := clipEnd y h c.h
  if xb ≤ xa ∨ yb ≤ ya then []
  else [.window xa ya (xb - 1) (yb - 1), .fill colour (((xb - xa) * (yb - ya)).toNat * 2)]

/-- The steps of `flush`, or its fault (R156). -/
def flushPlan (c : Config) (x1 y1 x2 y2 : Int) (buf : List Half) : Except Raised (List Task) :=
  if flushRegionOk c x1 y1 x2 y2 = false then .error (.flushRegionInvalid x1 y1 x2 y2 buf.length none)
  else if buf.length < regionPixels x1 y1 x2 y2 then
    .error (.flushRegionInvalid x1 y1 x2 y2 buf.length (some (regionPixels x1 y1 x2 y2)))
  else .ok [.window x1 y1 x2 y2,
    .block (pixelBytes (buf.take (regionPixels x1 y1 x2 y2))) (2 * regionPixels x1 y1 x2 y2)]

/-- The steps a host operation is made of (R90, R91), or the fault of an argument check made before any of them. -/
def plan (c : Config) : HostOp → Except Raised (List Task)
  | .sendCommand b => .ok [.command b]
  | .sendData b => .ok [.data b]
  | .sendDataBlock bytes length => .ok [.block bytes length]
  | .setWindow x1 y1 x2 y2 => .ok [.window x1 y1 x2 y2]
  | .driveReset level => .ok [.driveReset level]
  | .delay ms => .ok [.delay ms]
  | .bringUp => .ok (bringUpTasks c)
  | .drawPixel x y v =>
    .ok (if onDisplay c x y then [.window x y x y, .block [hi8 v, lo8 v] 2] else [])
  | .fillRect x y w h v => .ok (fillPlan c x y w h v)
  | .fillScreen v => .ok (fillPlan c 0 0 c.w c.h v)
  | .flush x1 y1 x2 y2 buf => flushPlan c x1 y1 x2 y2 buf
  | .setBacklight p => .ok [.setBacklight p]

/-- Begin the steps of an operation whose preconditions hold (R93, R147): it is now in progress. -/
def beginPlan (op : HostOp) (s : State) : Result :=
  match plan s.cfg op with
  | .error f => raise f (s.setHost (s.host.setOp (some op)))
  | .ok tasks => .next (s.setHost ((s.host.setOp (some op)).setTasks tasks))

/-- Start a host operation when none is in progress: `NOT_READY` comes before any other check (R147, R174), and
`bring_up` enters `BRINGUP(1)` (R137, R138). -/
def startOp (op : HostOp) (s : State) : Result :=
  if isDrawing op ∧ s.host.fsm ≠ .ready then raise (.notReady op s.host.fsm) s
  else if op = .bringUp then
    match s.host.fsm with
    | .bringup k => .fault (.bringUpNested k)
    | _ => beginPlan op (s.setHost (s.host.setFsm (.bringup 1)))
  else beginPlan op s

/-- Steps to run before those left. -/
def pushTasks (ts : List Task) (s : State) : State := s.setHost (s.host.setTasks (ts ++ s.host.tasks))

/-- `set_window` (R119, R120): clip, check, then the transport calls. -/
def windowTask (x1 y1 x2 y2 : Int) (s : State) : Result :=
  if windowArgsOk s.cfg x1 y1 x2 y2 = false then raise (.setWindowArgs x1 y1 x2 y2) s
  else .next (pushTasks (windowTasks (coord x1) (coord y1) (coord (clipX2 s.cfg x2)) (coord (clipY2 s.cfg y2))) s)

/-- One turn of the loop of `fill_rect` (R151, R153): a chunk of at most `CHUNK_BYTES`, then the rest. -/
def fillTask (c : Half) (total : Nat) (s : State) : Result :=
  if total = 0 then .next s
  else .next (pushTasks [.block (pattern c s.cfg.chunkBytes) (min s.cfg.chunkBytes total),
    .fill c (total - min s.cfg.chunkBytes total)] s)

/-- Run one step of the operation in progress; the step has been taken off `tasks`. -/
def runTask (t : Task) (s : State) : Result :=
  match t with
  | .command b => sendCommand b s
  | .data b => sendData b s
  | .block bytes length => sendDataBlock bytes length s
  | .window x1 y1 x2 y2 => windowTask x1 y1 x2 y2 s
  | .fill c total => fillTask c total s
  | .driveReset level => driveReset level s
  | .delay ms => .next (pushTasks [.hold] (s.setHost (s.host.setWakeAt (s.host.now + ms))))
  | .hold => .next s
  | .phase k => .next (s.setHost (s.host.setFsm (.bringup k)))
  | .configureBacklight => .next (backlightConfigure s)
  | .setBacklight p => setBacklight p s

/-- The status an operation returns when its transactions ended so (R169, R171, R141). -/
def finalStatus (op : HostOp) (e : Option BusError) : Status :=
  match op, e with
  | .bringUp, some b => .initFailed b
  | _, e => Status.ofBus e

/-- The bring-up state after an operation returns (R137). -/
def finalFsm (op : HostOp) (e : Option BusError) (f : Fsm) : Fsm :=
  match op, e with
  | .bringUp, none => .ready
  | .bringUp, some _ => .failed
  | _, _ => f

/-- The events of a return: `flush` signals its completion (R157). -/
def signalReturn (op : HostOp) (e : Option BusError) (s : State) : State :=
  match op with
  | .flush _ _ _ _ _ => s.addEvent (.flushDone s.host.now (finalStatus op e))
  | _ => s

/-- The operation in progress returns (R93, R171): no step of it is left, and its status is the caller's. -/
def finishOp (op : HostOp) (e : Option BusError) (s : State) : State :=
  let t := signalReturn op e s
  t.setHost (((((t.host.setFsm (finalFsm op e t.host.fsm)).setStatus (finalStatus op e)).setOp none).setTasks []).setXfer none)

end Sys2Proof.Machine
end

