-- ==== Sys2Proof/Machine/Session.lean ====
section
/-! DEFINITION. One step of a session: time (R183), a concurrent call (R180), the operation in progress (R95, R171), the caller's next call (R191); and how a bus word is placed so that the next step delivers it. -/

namespace Sys2Proof.Machine

/-- A bus word reaches the controller (R98): the decoder's verdict decides (R85, R88). -/
def deliverWord (w : BusWord) (s : State) : Result :=
  match decode w with
  | .known i => exec i s
  | .unknown b => execUnknown b s

/-- Take the next word off the transaction in progress. -/
def takeWord (x : Xfer) (s : State) : State := s.setHost (s.host.setXfer (some { x with words := x.words.tail }))

/-- The call that comes now although an operation is in progress (R180; log 16). -/
def overlapDue (s : State) : Option HostOp :=
  match s.env.calls with
  | c :: _ => if c.overlap = some 0 then some c.op else none
  | [] => none

/-- A pending concurrent call comes one host step nearer. -/
def callSooner (c : Call) : Call := { c with overlap := c.overlap.map (· - 1) }

/-- The same, for the call at the head of the caller's list. -/
def countOverlap (s : State) : State :=
  match s.env.calls with
  | c :: rest => s.setEnv { s.env with calls := callSooner c :: rest }
  | [] => s

/-- Whether the operation in progress is held: by a delay (R126), or by a transaction that timed out (R109). -/
def isHeld (s : State) : Bool :=
  match s.host.xfer with
  | some x => x.words.isEmpty && x.error == some .timeout && decide (s.host.now < x.start + s.cfg.tBusTimeout)
  | none => s.host.tasks.head? == some .hold && decide (s.host.now < s.host.wakeAt)

/-- The step of a transaction in progress (R95): its next word, or its end. DESIGN CHOICE (log 29): a failed transaction
and the return of its operation are one step, so no time passes between them; after an `OK` one it may. -/
def xferStep (op : HostOp) (x : Xfer) (s : State) : Result :=
  match x.words with
  | b :: _ => deliverWord (busWord x.dc b) (takeWord x s)
  | [] =>
    match x.error with
    | none => .next (s.setHost (s.host.setXfer none))
    | some e => .next (finishOp op (some e) s)

/-- The step of an operation between transactions: its next step, or its return. -/
def taskStep (op : HostOp) (s : State) : Result :=
  match s.host.tasks with
  | [] => .next (finishOp op none s)
  | t :: rest => runTask t (s.setHost (s.host.setTasks rest))

/-- The step of the operation in progress, when it is not held. -/
def opStep (op : HostOp) (s : State) : Result :=
  match s.host.xfer with
  | some x => xferStep op x s
  | none => taskStep op s

/-- The time that passes after a host step is drawn, but not inside a transaction, which takes none (R95), and
not once the agent has stopped (R173; log 13). -/
def afterHostStep : Result → Result
  | .next t => .next (if t.host.xfer = none ∧ t.faults = [] then drawSlack t else t)
  | r => r

/-- The turn of an operation in progress: a concurrent call faults (R180), else a held host waits for time, else
the operation goes on. -/
def busyTurn (op : HostOp) (s : State) : Result :=
  match overlapDue s with
  | some op' => raise (.concurrentAccess op op') s
  | none =>
    if isHeld s then .next (waitTick (countOverlap s))
    else afterHostStep (opStep op (countOverlap s))

/-- The turn of an idle host: the caller's next call starts, or time passes (R191). -/
def idleTurn (s : State) : Result :=
  match s.env.calls with
  | c :: rest => afterHostStep (startOp c.op (s.setEnv { s.env with calls := rest }))
  | [] => .next (waitTick s)

/-- The host's turn. -/
def hostTurn (s : State) : Result :=
  match s.host.op with
  | some op => busyTurn op s
  | none => idleTurn s

/-- One step of a session. A state that holds a fault takes none (R173). -/
def sessionStep (s : State) : Result :=
  match s.faults with
  | f :: _ => .fault (.stopped f)
  | [] => if s.env.slack = 0 then hostTurn s else .next (spendSlack s)

/-- The host operation that delivers one bus word. -/
def wordCall (dc : Level) (b : Byte) : HostOp := if dc then .sendData b else .sendCommand b

/-- The state in which the caller has called `send_command` or `send_data` for one bus word and nothing else, the
transaction has begun (R94, R95) and the environment has decided `OK`: the next step delivers the word (log 15). -/
def placeWord (w : BusWord) (s : State) : State :=
  (s.setHost (((((s.host.setOp (some (wordCall (wordDc w) (wordByte w)))).setTasks []).setDc (wordDc w)).nextTxn).setXfer
    (some { dc := wordDc w, words := [wordByte w], error := none, start := s.host.now }))).setEnv
    { s.env with calls := [], slack := 0 }

/-- The same for a word numbered as the opcode table numbers it (log 22). -/
def placeTableWord (_nbits w : Nat) (s : State) : State := placeWord (BitVec.ofNat 9 w) s

end Sys2Proof.Machine
end

