-- ==== Sys2Proof/Machine/Step.lean ====
section
/-! DEFINITION. The machine's step, and a bus word placed for the next step; both only call Machine/Session.lean. -/

namespace Sys2Proof.Machine

/-- One step of the machine. -/
def step (s : State) : Host.Outcome State Fault Refusal := sessionStep s

/-- `s` with the bus word `w` of the opcode table placed so that the next step delivers it (log 15, 22). -/
def State.withFetchWord (s : State) (nbits w : Nat) : State := placeTableWord nbits w s

end Sys2Proof.Machine
end

