-- ==== Sys2Proof/Machine/Sessions.lean ====
section
/-! DEFINITION. Several displays (R181): a list of sessions that share nothing and step in any order. -/

namespace Sys2Proof.Machine

/-- Session number `i` of a list takes one step; the others keep their states (R181). What sessions draw once their listed
inputs are used up comes from the same free values (log 30). `none` where there is no
such session. -/
def sessionsStep : List State → Nat → Option (Host.Outcome (List State) Fault Refusal)
  | [], _ => none
  | s :: rest, 0 =>
    match step s with
    | .next t => some (.next (t :: rest))
    | .fault f => some (.fault f)
    | .refused r => some (.refused r)
  | s :: rest, i + 1 =>
    match sessionsStep rest i with
    | none => none
    | some (.next rest') => some (.next (s :: rest'))
    | some (.fault f) => some (.fault f)
    | some (.refused r) => some (.refused r)

end Sys2Proof.Machine
end

