-- ==== Sys2Proof/Safety.lean ====
section
/-! DEFINITION. The terms claims are stated in: when a word is accepted (R98, R99, R114), where a data word stores, words and bytes delivered in a row, a good end and the observation of a run (R19, R20), and the invariants of a session. -/

namespace Sys2Proof.Machine

/-- The three delivery checks of R98 pass. -/
abbrev Accepts (s : State) : Prop :=
  s.host.rstN ≠ some false ∧ s.ctl.parser ≠ .unknown ∧ s.ctl.settleUntil ≤ s.host.now

/-- The frame check of R99 passes: no parameter list is open, and no half pixel. -/
abbrev FrameClosed (s : State) : Prop :=
  s.ctl.parser = .idle ∨ (s.ctl.parser = .memwrite ∧ s.ctl.pend = none)

/-- The window registers are known and hold a window of the display (R114). -/
def windowSet (s : State) : Bool :=
  match s.ctl.xs, s.ctl.xe, s.ctl.ys, s.ctl.ye with
  | some xs, some xe, some ys, some ye => windowLegal s.cfg xs xe ys ye
  | _, _, _, _ => false

/-- The pixel format is 16 bits per pixel and the orientation the default (R114). -/
def formatSet (s : State) : Bool :=
  s.ctl.colmod == some s.cfg.colmod16bpp && s.ctl.madctl == some s.cfg.madctlDefault

/-- The address of the first of the two bytes DATA stores, where it stores: the low byte of a pixel in an open
memory write (R115). -/
def storeAddr (s : State) : Option Nat :=
  match s.ctl.parser, s.ctl.exhausted, s.ctl.pend, s.ctl.cx, s.ctl.cy with
  | .memwrite, false, some _, some cx, some cy => some (cellAddr s.cfg cx.toNat cy.toNat)
  | _, _, _, _, _ => none

/-- Bus words delivered one after another (R65). -/
def deliverWords : List BusWord → State → Result
  | [], s => .next s
  | w :: ws, s =>
    match deliverWord w s with
    | .next t => deliverWords ws t
    | r => r

/-- Pixel or parameter bytes delivered one after another as data words (R100). -/
def deliverBytes : List Byte → State → Result
  | [], s => .next s
  | b :: bs, s =>
    match exec (.data b) s with
    | .next t => deliverBytes bs t
    | r => r

/-- The eleven words of `set_window` for clipped bounds (R121). -/
def setWindowWords (x1 y1 x2 y2 : Half) : List BusWord :=
  [busWord false 0x2A, busWord true (hi8 x1), busWord true (lo8 x1), busWord true (hi8 x2), busWord true (lo8 x2),
   busWord false 0x2B, busWord true (hi8 y1), busWord true (lo8 y1), busWord true (hi8 y2), busWord true (lo8 y2),
   busWord false 0x2C]

/-- The bus words of the transport calls in a list of steps, when every transaction is `OK` and no block is longer than its
buffer (R91, R102 to R104). A window or a fill is not a transport call: its words count once its own steps stand in the list. -/
def taskWords : List Task → List BusWord
  | [] => []
  | .command b :: rest => busWord false b :: taskWords rest
  | .data b :: rest => busWord true b :: taskWords rest
  | .block bytes length :: rest => (bytes.take length).map (busWord true) ++ taskWords rest
  | _ :: rest => taskWords rest

/-- The bus words of bring-up step `k` (R138). -/
def stepWords (c : Config) : Nat → List BusWord
  | 2 => [0x001]
  | 3 => [0x011]
  | 4 => [0x03A, busWord true c.colmod16bpp]
  | 5 => [0x036, busWord true c.madctlDefault]
  | 6 => if c.invertOn then [0x021] else []
  | 7 => [0x013]
  | 8 => [0x029]
  | _ => []

/-- The waits of bring-up step `k` (R138, R140, R146). -/
def stepWaits (c : Config) : Nat → List Nat
  | 2 => [c.tSwreset]
  | 3 => [c.tSlpout]
  | 6 => if c.invertOn then [c.tInvon] else []
  | 7 => [c.tNoron]
  | 8 => [c.tDispon]
  | _ => []

/-- The waits of the delays in a list of steps (R126). -/
def taskWaits : List Task → List Nat
  | [] => []
  | .delay ms :: rest => ms :: taskWaits rest
  | _ :: rest => taskWaits rest

/-- A step of an operation that acts on the reset line or the backlight channel, which no bus word does. -/
def actsOffBus : Task → Bool
  | .driveReset _ => true
  | .configureBacklight => true
  | .setBacklight _ => true
  | _ => false

/-- The chunk sizes of a fill of `total` bytes in the order its loop sends them (R153), in at most `fuel` turns. -/
def chunkSizes (chunk : Nat) : Nat → Nat → List Nat
  | 0, _ => []
  | fuel + 1, total => if total = 0 then [] else min chunk total :: chunkSizes chunk fuel (total - min chunk total)

/-- A good end of a run (R20): nothing left to start, the last operation has returned, and no fault is held (R173). -/
def goodEnd (s : State) : Bool := s.host.op.isNone && s.env.calls.isEmpty && s.faults.isEmpty

/-- The observation of a run (R19): the bus trace, the line edges, duty commits and completions, and the end state.
DESIGN CHOICE (log 28): which fields R19's "host status" means, and that completions are observed. -/
structure Observation where
  busTrace : List Event
  lines : List Event
  ctl : Controller
  status : Option Status
  op : Option HostOp
  fsm : Fsm
  configured : Bool
  duty : Option Nat
  faults : List Raised
  deriving DecidableEq, Repr

/-- Whether an event is a bus word (R30). -/
def Event.isWord : Event → Bool
  | .word _ _ _ _ => true
  | _ => false

/-- The time of an event (R30). -/
def Event.time : Event → Nat
  | .word t _ _ _ => t
  | .resetEdge t _ => t
  | .duty t _ => t
  | .flushDone t _ => t

/-- What a run that ends in `s` lets an observer see (R19). Its "host status" is every field some rule calls a status:
the returned one (R169), `op` (R26), `fsm` and `bl_cfg` (R42), and the committed duty (DESIGN CHOICE, log 28). -/
def observe (s : State) : Observation where
  busTrace := s.trace.filter Event.isWord
  lines := s.trace.filter (fun e => !e.isWord)
  ctl := s.ctl
  status := s.host.status
  op := s.host.op
  fsm := s.host.fsm
  configured := s.host.blCfg
  duty := s.host.blDuty
  faults := s.faults

/-- The frame memory: canonical form, no byte outside the `W * H` cells (R55, R56), and never half a pixel (R61). -/
structure FrameMemoryOk (s : State) : Prop where
  canonical : s.ctl.fb.wf
  inside : ∀ p ∈ s.ctl.fb, p.1 < 2 * (s.cfg.w * s.cfg.h)
  whole : ∀ k, (memRead s.ctl.fb (2 * k)).isSome = (memRead s.ctl.fb (2 * k + 1)).isSome

/-- The parser: an open frame lacks at least one byte (R31); half a pixel is pending only in an open memory write; an
open memory write has a legal window, the supported format, a controller out of sleep, and the cursor inside the
window (R114, R116). -/
structure ParserOk (s : State) : Prop where
  params : ∀ op args, s.ctl.parser = .params op args → args.length < op.nparams
  pending : s.ctl.pend ≠ none → s.ctl.parser = .memwrite ∧ s.ctl.exhausted = false
  writing : s.ctl.parser = .memwrite →
    formatSet s = true ∧ s.ctl.sleepOut = some true ∧
    ∃ xs xe ys ye cx cy, s.ctl.xs = some xs ∧ s.ctl.xe = some xe ∧ s.ctl.ys = some ys ∧ s.ctl.ye = some ye ∧
      s.ctl.cx = some cx ∧ s.ctl.cy = some cy ∧ windowLegal s.cfg xs xe ys ye = true ∧
      xs.toNat ≤ cx.toNat ∧ cx.toNat ≤ xe.toNat ∧ ys.toNat ≤ cy.toNat ∧ cy.toNat ≤ ye.toNat

/-- The reset line: the time of the falling edge is known exactly while the line is low (R25); a controller held in
reset is in its reset state (R41, R127); a controller never reset is in its power-on state (R31, R47). -/
structure ResetLineOk (s : State) : Prop where
  edge : s.host.rstN = some false ↔ s.host.rstLowSince ≠ none
  past : ∀ t, s.host.rstLowSince = some t → t ≤ s.host.now
  held : s.host.rstN = some false → s.ctl = s.ctl.toReset
  powerOn : s.ctl.parser = .unknown → s.ctl = Controller.powerOn

/-- The bring-up steps still to come. -/
def phases : List Task → List Nat
  | [] => []
  | .phase k :: rest => k :: phases rest
  | _ :: rest => phases rest

/-- The operation in progress: an idle host has no step and no transaction left; the control line is at the level of
the transaction in progress (R94); the host is in bring-up step `k`, of 1 to 9, exactly while `bring_up` runs, with
the steps after `k` still to come in order (R27, R138). -/
structure OperationOk (s : State) : Prop where
  idle : s.host.op = none → s.host.tasks = [] ∧ s.host.xfer = none
  line : ∀ x, s.host.xfer = some x → s.host.dc = some x.dc ∧ x.start ≤ s.host.now
  outside : s.host.op ≠ some .bringUp → phases s.host.tasks = [] ∧ ∀ k, s.host.fsm ≠ .bringup k
  inside : s.host.op = some .bringUp → ∃ k, s.host.fsm = .bringup k ∧ 1 ≤ k ∧ k ≤ 9 ∧
    phases s.host.tasks = List.range' (k + 1) (9 - k)

/-- The backlight: a duty code is committed exactly when the channel is configured, and it is at most `DUTY_MAX`
(R29, R160). -/
structure BacklightOk (s : State) : Prop where
  configured : s.host.blCfg = true ↔ s.host.blDuty ≠ none
  bounded : ∀ d, s.host.blDuty = some d → d ≤ s.cfg.dutyMax

/-- The trace: in order of time, none later than now (R183); the words of a transaction share one control-line level
(R94) and stand together (R110), because transaction numbers never fall. That they never fall is the model's: R95 says
only that a number is fresh, and the model takes the next one (log 20). -/
structure TraceOk (s : State) : Prop where
  ordered : s.trace.Pairwise (fun e f => e.time ≤ f.time)
  past : ∀ e ∈ s.trace, e.time ≤ s.host.now
  numbered : s.trace.Pairwise (fun e f => match e, f with
    | .word _ dc _ m, .word _ dc' _ n => m < n ∨ (m = n ∧ dc = dc')
    | _, _ => True)
  numberedPast : ∀ t dc b n, Event.word t dc b n ∈ s.trace →
    n < s.host.txn ∨ (n = s.host.txn ∧ s.host.dc = some dc)

/-- A session holds at most one fault: the agent stops at the first (R173, R174). -/
abbrev FaultsOk (s : State) : Prop := s.faults.length ≤ 1

end Sys2Proof.Machine
end

