-- ==== Sys2Proof/Certificates/Slice0/Obligations.lean ====
section
/-! DEFINITION. The statements for the provers, each with the rule of spec/ it comes from. -/

open Sys2Proof Sys2Proof.Machine

/-! ## Encoding -/

/-- The words of the opcode table, written out from R73 and R84, and what they stand for. -/
def Obligations.TableWordsDecode : Prop :=
  decode 0b000000001#9 = .known .swreset ∧ decode 0b000010001#9 = .known .slpout ∧
  decode 0b000010011#9 = .known .noron ∧ decode 0b000100001#9 = .known .invon ∧
  decode 0b000101001#9 = .known .dispon ∧ decode 0b000101010#9 = .known .caset ∧
  decode 0b000101011#9 = .known .raset ∧ decode 0b000101100#9 = .known .ramwr ∧
  decode 0b000110110#9 = .known .madctl ∧ decode 0b000111010#9 = .known .colmod ∧
  decode 0b101010101#9 = .known (.data 0x55) ∧ decode 0b000000000#9 = .unknown 0x00 ∧
  decodeTableWord 16 0x1EF = some (.data 0xEF) ∧ decodeTableWord 16 0x0FF = none

/-- R84, R88: every data word is DATA; the ten command bytes of the table have their meanings; every other command byte
has the verdict "unknown", and no word has two verdicts. -/
def Obligations.ExactlyTenCommandBytes : Prop :=
  (∀ b : Byte, decode (busWord true b) = .known (.data b)) ∧
  decode (busWord false 0x01) = .known .swreset ∧ decode (busWord false 0x11) = .known .slpout ∧
  decode (busWord false 0x13) = .known .noron ∧ decode (busWord false 0x21) = .known .invon ∧
  decode (busWord false 0x29) = .known .dispon ∧ decode (busWord false 0x2A) = .known .caset ∧
  decode (busWord false 0x2B) = .known .raset ∧ decode (busWord false 0x2C) = .known .ramwr ∧
  decode (busWord false 0x36) = .known .madctl ∧ decode (busWord false 0x3A) = .known .colmod ∧
  (∀ b : Byte, b ∉ [0x01#8, 0x11#8, 0x13#8, 0x21#8, 0x29#8, 0x2A#8, 0x2B#8, 0x2C#8, 0x36#8, 0x3A#8] →
    decode (busWord false b) = .unknown b) ∧
  (∀ w : BusWord, busWord (wordDc w) (wordByte w) = w)

/-- Decoding and encoding are inverse: a word is an instruction's exactly when it is the word of that instruction. -/
def Obligations.DecodeIsInverseOfEncode : Prop :=
  ∀ (w : BusWord) (i : Instr), decode w = .known i ↔ encode i = w

/-- R75, R76: a well-formed frame is read back from its words, with all its bytes, whatever follows; a pixel stream
ends at the next command word, so what follows one begins with none or with a command word. -/
def Obligations.FrameReadsBack : Prop :=
  ∀ (f : Frame) (rest : List BusWord), f.wf = true →
    (f.cmd.payloadShape = .stream → ∀ w, rest.head? = some w → wordDc w = false) →
    decodeFrame (f.encode ++ rest) = .ok (f, rest)

/-- R75, R76: what is read as a frame is well formed and is exactly the words read. -/
def Obligations.FrameDecodeIsExact : Prop :=
  ∀ (ws : List BusWord) (f : Frame) (rest : List BusWord), decodeFrame ws = .ok (f, rest) →
    f.wf = true ∧ f.encode ++ rest = ws

/-! ## Word delivery -/

/-- R98, R174: the three delivery checks, in order, for every bus word, known or not; the word is in the trace and
nothing else has changed. -/
def Obligations.DeliveryChecksInOrder : Prop :=
  ∀ (w : BusWord) (s : State),
    (s.host.rstN = some false →
      deliverWord w s = .next ((logWord w s).addFault (.busDuringReset (wordDc w) (wordByte w)))) ∧
    (s.host.rstN ≠ some false → s.ctl.parser = .unknown →
      deliverWord w s = .next ((logWord w s).addFault (.notReset (wordDc w) (wordByte w)))) ∧
    (s.host.rstN ≠ some false → s.ctl.parser ≠ .unknown → s.host.now < s.ctl.settleUntil →
      deliverWord w s = .next ((logWord w s).addFault
        (.settleViolation (wordDc w) (wordByte w) s.host.now s.ctl.settleUntil)))

/-- R99: a command word, known or not, that comes before the open command's parameters are complete, or after half a
pixel, faults before its opcode is looked at (vectors PA-8, PA-13, AD-12). -/
def Obligations.CommandCutsOffOpenFrame : Prop :=
  ∀ (w : BusWord) (s : State), wordDc w = false → Accepts s →
    (∀ op args, s.ctl.parser = .params op args →
      deliverWord w s = .next ((logWord w s).addFault (.incompleteParams op args.length))) ∧
    (s.ctl.parser = .memwrite → s.ctl.pend ≠ none →
      deliverWord w s = .next ((logWord w s).addFault (.partialPixel s.ctl.cx s.ctl.cy)))

/-- R85, R99: a command byte outside the table faults; an open pixel stream has ended by then (log 10). -/
def Obligations.UnknownCommandFaults : Prop :=
  ∀ (w : BusWord) (b : Byte) (s : State), decode w = .unknown b → Accepts s → FrameClosed s →
    deliverWord w s = .next ((logWord w s).setCtl (s.ctl.setParser .idle) |>.addFault (.unknownCommand b))

/-! ## Commands: where each completes, and with what -/

/-- R130, R48: SWRESET leaves the controller reset state and the gate `T_SWRESET`; nothing else changes but the trace. -/
def Obligations.SwresetResets : Prop :=
  ∀ s : State, Accepts s → FrameClosed s →
    exec .swreset s = .next { s with
      trace := s.trace ++ [.word s.host.now false 0x01 s.host.txn]
      ctl := { parser := .idle, xs := none, xe := none, ys := none, ye := none, cx := none, cy := none,
               exhausted := false, pend := none, madctl := none, colmod := none, sleepOut := some false,
               normalOn := none, invOn := none, dispOn := none,
               settleUntil := s.host.now + s.cfg.tSwreset, fb := [] } }

/-- R131, R134, R135, R136: each of the four mode commands sets its own flag, leaves the parser idle and sets its own
gate; nothing else changes but the trace. -/
def Obligations.ModeCommandsSetFlagAndGate : Prop :=
  ∀ s : State, Accepts s → FrameClosed s →
    exec .slpout s = .next { s with
      trace := s.trace ++ [.word s.host.now false 0x11 s.host.txn]
      ctl := { s.ctl with parser := .idle, sleepOut := some true, settleUntil := s.host.now + s.cfg.tSlpout } } ∧
    exec .noron s = .next { s with
      trace := s.trace ++ [.word s.host.now false 0x13 s.host.txn]
      ctl := { s.ctl with parser := .idle, normalOn := some true, settleUntil := s.host.now + s.cfg.tNoron } } ∧
    exec .invon s = .next { s with
      trace := s.trace ++ [.word s.host.now false 0x21 s.host.txn]
      ctl := { s.ctl with parser := .idle, invOn := some true, settleUntil := s.host.now + s.cfg.tInvon } } ∧
    exec .dispon s = .next { s with
      trace := s.trace ++ [.word s.host.now false 0x29 s.host.txn]
      ctl := { s.ctl with parser := .idle, dispOn := some true, settleUntil := s.host.now + s.cfg.tDispon } }

/-- R111, R113, R132, R133: each of the four commands with parameters opens its frame, with no parameter yet; its
registers keep their values. -/
def Obligations.ParameterCommandsOpenFrame : Prop :=
  ∀ s : State, Accepts s → FrameClosed s →
    exec .caset s = .next { s with
      trace := s.trace ++ [.word s.host.now false 0x2A s.host.txn]
      ctl := { s.ctl with parser := .params .caset [] } } ∧
    exec .raset s = .next { s with
      trace := s.trace ++ [.word s.host.now false 0x2B s.host.txn]
      ctl := { s.ctl with parser := .params .raset [] } } ∧
    exec .madctl s = .next { s with
      trace := s.trace ++ [.word s.host.now false 0x36 s.host.txn]
      ctl := { s.ctl with parser := .params .madctl [] } } ∧
    exec .colmod s = .next { s with
      trace := s.trace ++ [.word s.host.now false 0x3A s.host.txn]
      ctl := { s.ctl with parser := .params .colmod [] } }

/-- R114, R123: with a legal window, the supported format and the controller out of sleep, RAMWR opens the write with
the cursor at the window's first cell, from an idle parser or from an earlier write alike. -/
def Obligations.RamwrOpensWrite : Prop :=
  ∀ (s : State) (xs xe ys ye : Half), Accepts s → FrameClosed s →
    s.ctl.xs = some xs → s.ctl.xe = some xe → s.ctl.ys = some ys → s.ctl.ye = some ye →
    xs.toNat ≤ xe.toNat → xe.toNat < s.cfg.w → ys.toNat ≤ ye.toNat → ye.toNat < s.cfg.h →
    s.ctl.colmod = some s.cfg.colmod16bpp → s.ctl.madctl = some s.cfg.madctlDefault → s.ctl.sleepOut = some true →
    exec .ramwr s = .next { s with
      trace := s.trace ++ [.word s.host.now false 0x2C s.host.txn]
      ctl := { s.ctl with parser := .memwrite, cx := some xs, cy := some ys, pend := none, exhausted := false } }

/-- R114, R174: RAMWR's faults, in the order of its checks: window, format, sleep. The parser is idle then. -/
def Obligations.RamwrFaultsInOrder : Prop :=
  ∀ s : State, Accepts s → FrameClosed s →
    (windowSet s = false →
      exec .ramwr s = .next (((logWord 0x02C#9 s).setCtl (s.ctl.setParser .idle)).addFault
        (.windowInvalid s.ctl.xs s.ctl.xe s.ctl.ys s.ctl.ye))) ∧
    (windowSet s = true → formatSet s = false →
      exec .ramwr s = .next (((logWord 0x02C#9 s).setCtl (s.ctl.setParser .idle)).addFault
        (.formatUnsupported s.ctl.colmod s.ctl.madctl))) ∧
    (windowSet s = true → formatSet s = true → s.ctl.sleepOut ≠ some true →
      exec .ramwr s = .next (((logWord 0x02C#9 s).setCtl (s.ctl.setParser .idle)).addFault .writeWhileSleep))

/-! ## DATA -/

/-- R101: a parameter byte that does not complete the frame is collected, and no register changes. -/
def Obligations.ParameterByteIsCollected : Prop :=
  ∀ (b : Byte) (op : ParamCmd) (args : List Byte) (s : State), Accepts s → s.ctl.parser = .params op args →
    args.length + 1 < op.nparams →
    exec (.data b) s = .next { s with
      trace := s.trace ++ [.word s.host.now true b s.host.txn]
      ctl := { s.ctl with parser := .params op (args ++ [b]) } }

/-- R101, R111, R113, R132, R133, R79: the last parameter byte commits the register, big-endian, and leaves the parser
idle. Any value is stored (R112). -/
def Obligations.LastParameterCommits : Prop :=
  ∀ (b p1 p2 p3 : Byte) (s : State), Accepts s →
    (s.ctl.parser = .params .caset [p1, p2, p3] → exec (.data b) s = .next { s with
      trace := s.trace ++ [.word s.host.now true b s.host.txn]
      ctl := { s.ctl with parser := .idle, xs := some (p1 ++ p2), xe := some (p3 ++ b) } }) ∧
    (s.ctl.parser = .params .raset [p1, p2, p3] → exec (.data b) s = .next { s with
      trace := s.trace ++ [.word s.host.now true b s.host.txn]
      ctl := { s.ctl with parser := .idle, ys := some (p1 ++ p2), ye := some (p3 ++ b) } }) ∧
    (s.ctl.parser = .params .madctl [] → exec (.data b) s = .next { s with
      trace := s.trace ++ [.word s.host.now true b s.host.txn]
      ctl := { s.ctl with parser := .idle, madctl := some b } }) ∧
    (s.ctl.parser = .params .colmod [] → exec (.data b) s = .next { s with
      trace := s.trace ++ [.word s.host.now true b s.host.txn]
      ctl := { s.ctl with parser := .idle, colmod := some b } })

/-- R115: the high byte of a pixel is kept pending, and no cell changes. -/
def Obligations.PixelHighByteIsPending : Prop :=
  ∀ (b : Byte) (s : State), Accepts s → s.ctl.parser = .memwrite → s.ctl.exhausted = false → s.ctl.pend = none →
    exec (.data b) s = .next { s with
      trace := s.trace ++ [.word s.host.now true b s.host.txn]
      ctl := { s.ctl with pend := some b } }

/-- R115, R116, R57: the low byte writes the whole cell at the cursor, high byte first, and advances the cursor
row-major, `x2+1 → x1` of the next row, or marks the window full. -/
def Obligations.PixelLowByteWritesCell : Prop :=
  ∀ (h b : Byte) (cx cy xs xe ye : Half) (s : State), Accepts s → s.ctl.parser = .memwrite →
    s.ctl.exhausted = false → s.ctl.pend = some h → s.ctl.cx = some cx → s.ctl.cy = some cy →
    s.ctl.xs = some xs → s.ctl.xe = some xe → s.ctl.ye = some ye → cx.toNat < s.cfg.w → cy.toNat < s.cfg.h →
    ∃ t, exec (.data b) s = .next t ∧
      t = { s with
        trace := s.trace ++ [.word s.host.now true b s.host.txn]
        ctl := { s.ctl with
          pend := none
          fb := fbWrite s.cfg s.ctl.fb cx.toNat cy.toNat (h ++ b)
          cx := if cx.toNat < xe.toNat then some (cx + 1) else some xs
          cy := if cx.toNat < xe.toNat then some cy else if cy.toNat < ye.toNat then some (cy + 1) else some cy
          exhausted := !decide (cx.toNat < xe.toNat) && !decide (cy.toNat < ye.toNat) } } ∧
      fbRead s.cfg t.ctl.fb cx.toNat cy.toNat = some (h ++ b)

/-- R100, R117: a data word with no open command faults; a pixel byte after the last cell of the window faults. Neither
changes the controller. -/
def Obligations.StrayAndOverrunDataFault : Prop :=
  ∀ (b : Byte) (s : State), Accepts s →
    (s.ctl.parser = .idle →
      exec (.data b) s = .next ((logWord (busWord true b) s).addFault (.unexpectedData b))) ∧
    (s.ctl.parser = .memwrite → s.ctl.exhausted = true →
      exec (.data b) s = .next ((logWord (busWord true b) s).addFault (.windowOverrun b)))

/-- R116, R124: the k-th pixel of a stream lands at column `xs + k mod Wn` and row `ys + k div Wn`; every other cell of
the display keeps its value; the window is full exactly when all `Wn * Hn` pixels have come. -/
def Obligations.PixelStreamFillsRowMajor : Prop :=
  ∀ (s : State) (xs xe ys ye : Half) (px : List Half), Accepts s → s.ctl.parser = .memwrite →
    s.ctl.exhausted = false → s.ctl.pend = none → s.ctl.xs = some xs → s.ctl.xe = some xe → s.ctl.ye = some ye →
    s.ctl.cx = some xs → s.ctl.cy = some ys → windowLegal s.cfg xs xe ys ye = true →
    px.length ≤ (xe.toNat - xs.toNat + 1) * (ye.toNat - ys.toNat + 1) →
    ∃ t, deliverBytes (pixelBytes px) s = .next t ∧ t.faults = s.faults ∧ t.ctl.pend = none ∧
      (t.ctl.exhausted = true ↔ px.length = (xe.toNat - xs.toNat + 1) * (ye.toNat - ys.toNat + 1)) ∧
      (∀ k, k < px.length →
        fbRead s.cfg t.ctl.fb (xs.toNat + k % (xe.toNat - xs.toNat + 1)) (ys.toNat + k / (xe.toNat - xs.toNat + 1))
          = px[k]?) ∧
      (∀ x y, x < s.cfg.w → y < s.cfg.h →
        (∀ k, k < px.length →
          ¬(x = xs.toNat + k % (xe.toNat - xs.toNat + 1) ∧ y = ys.toNat + k / (xe.toNat - xs.toNat + 1))) →
        fbRead s.cfg t.ctl.fb x y = fbRead s.cfg s.ctl.fb x y)

/-! ## Frames: what a word leaves alone -/

/-- R98 to R101, R85 and the rules of the commands (their "state written"), R52, R174: no bus word, known or not, whether it
completes or faults, changes anything on the host side (lines, clock, operation, bring-up state, backlight: R166) or the
parameters; it adds exactly its own entry to the trace and at most one fault. That it leaves the inputs alone is the model's
(log 12, 13). -/
def Obligations.WordsLeaveHostSideAlone : Prop :=
  ∀ (w : BusWord) (s t : State), deliverWord w s = .next t →
    t.host = s.host ∧ t.cfg = s.cfg ∧ t.env = s.env ∧ t.trace = s.trace ++ [wordEvent w s] ∧
    (t.faults = s.faults ∨ ∃ f, t.faults = insertFault s.faults f)

/-- The frame of the command words but SWRESET: the window, orientation and format registers and every byte of the
frame memory stay; the cursor, `exhausted` and the pending byte stay unless RAMWR opened a write; each mode flag stays
but for its own command's; the gate stays but for the four mode commands. -/
def Obligations.CommandFrame : Prop :=
  ∀ (i : Instr) (s t : State), i ≠ .swreset → (∀ b, i ≠ .data b) → exec i s = .next t →
    t.ctl.xs = s.ctl.xs ∧ t.ctl.xe = s.ctl.xe ∧ t.ctl.ys = s.ctl.ys ∧ t.ctl.ye = s.ctl.ye ∧
    t.ctl.madctl = s.ctl.madctl ∧ t.ctl.colmod = s.ctl.colmod ∧
    (∀ a, memRead t.ctl.fb a = memRead s.ctl.fb a) ∧
    (i ≠ .ramwr → t.ctl.cx = s.ctl.cx ∧ t.ctl.cy = s.ctl.cy ∧ t.ctl.exhausted = s.ctl.exhausted ∧
      t.ctl.pend = s.ctl.pend) ∧
    (i ≠ .slpout → t.ctl.sleepOut = s.ctl.sleepOut) ∧ (i ≠ .noron → t.ctl.normalOn = s.ctl.normalOn) ∧
    (i ≠ .invon → t.ctl.invOn = s.ctl.invOn) ∧ (i ≠ .dispon → t.ctl.dispOn = s.ctl.dispOn) ∧
    (i ≠ .slpout → i ≠ .noron → i ≠ .invon → i ≠ .dispon → t.ctl.settleUntil = s.ctl.settleUntil)

/-- R130, R48, R98, R99: SWRESET resets the whole controller as R48 lists it (a decision of the spec), with the gate
`T_SWRESET`; or it is one fault and the controller stays, memory and all. -/
def Obligations.SwresetFrame : Prop :=
  ∀ s t : State, exec .swreset s = .next t →
    (t.ctl = s.ctl ∧ ∃ f, t.faults = insertFault s.faults f) ∨
    (t.faults = s.faults ∧ (∀ a, memRead t.ctl.fb a = none) ∧
      t.ctl = { parser := .idle, xs := none, xe := none, ys := none, ye := none, cx := none, cy := none,
                exhausted := false, pend := none, madctl := none, colmod := none, sleepOut := some false,
                normalOn := none, invOn := none, dispOn := none,
                settleUntil := s.host.now + s.cfg.tSwreset, fb := [] })

/-- The frame of DATA: the mode flags and the gate stay; each register stays unless its own command is open; the cursor
and the pending byte stay unless a write is open; every byte of memory outside the two stored ones reads as before, and
where nothing is stored, every byte. -/
def Obligations.DataFrame : Prop :=
  ∀ (b : Byte) (s t : State), exec (.data b) s = .next t →
    t.ctl.sleepOut = s.ctl.sleepOut ∧ t.ctl.normalOn = s.ctl.normalOn ∧ t.ctl.invOn = s.ctl.invOn ∧
    t.ctl.dispOn = s.ctl.dispOn ∧ t.ctl.settleUntil = s.ctl.settleUntil ∧
    ((∀ args, s.ctl.parser ≠ .params .caset args) → t.ctl.xs = s.ctl.xs ∧ t.ctl.xe = s.ctl.xe) ∧
    ((∀ args, s.ctl.parser ≠ .params .raset args) → t.ctl.ys = s.ctl.ys ∧ t.ctl.ye = s.ctl.ye) ∧
    ((∀ args, s.ctl.parser ≠ .params .madctl args) → t.ctl.madctl = s.ctl.madctl) ∧
    ((∀ args, s.ctl.parser ≠ .params .colmod args) → t.ctl.colmod = s.ctl.colmod) ∧
    (s.ctl.parser ≠ .memwrite → t.ctl.cx = s.ctl.cx ∧ t.ctl.cy = s.ctl.cy ∧ t.ctl.exhausted = s.ctl.exhausted ∧
      t.ctl.pend = s.ctl.pend) ∧
    (∀ a, storeAddr s = some a → ∀ k, k ≠ a → k ≠ a + 1 → memRead t.ctl.fb k = memRead s.ctl.fb k) ∧
    (storeAddr s = none → ∀ k, memRead t.ctl.fb k = memRead s.ctl.fb k)

/-- R71: the controller cannot tell how words are grouped into transactions: what a word does to it and which fault it
raises depend only on the controller, the parameters, the clock and the reset line. -/
def Obligations.TransactionsAreInvisible : Prop :=
  ∀ (w : BusWord) (s u : State), s.ctl = u.ctl → s.cfg = u.cfg → s.host.now = u.host.now →
    s.host.rstN = u.host.rstN → s.faults = u.faults →
    match deliverWord w s, deliverWord w u with
    | .next a, .next b => a.ctl = b.ctl ∧ a.faults = b.faults
    | .fault f, .fault g => f = g
    | .refused f, .refused g => f = g
    | _, _ => False

/-- R121: the eleven words of `set_window`, delivered to a controller that would accept RAMWR, leave the window
registers at the bounds, the write open, the cursor at its first cell, and the eleven words in the trace, in order. -/
def Obligations.SetWindowWordsOpenWindow : Prop :=
  ∀ (s : State) (x1 y1 x2 y2 : Half), Accepts s → FrameClosed s → windowLegal s.cfg x1 x2 y1 y2 = true →
    formatSet s = true → s.ctl.sleepOut = some true →
    deliverWords (setWindowWords x1 y1 x2 y2) s = .next { s with
      trace := s.trace ++ (setWindowWords x1 y1 x2 y2).map
        (fun w => .word s.host.now (wordDc w) (wordByte w) s.host.txn)
      ctl := { s.ctl with
        parser := .memwrite, xs := some x1, xe := some x2, ys := some y1, ye := some y2,
        cx := some x1, cy := some y1, pend := none, exhausted := false } }

/-! ## Steps -/

/-- A step runs the decoded instruction: with no fault, no time to pass first and no concurrent call due, the step of a
transaction in progress is the delivery of its next word (known or not; `exec i` where it decodes to `i`), on the state
with that word taken off the transaction and a waiting concurrent call counted down. R95 and R98 say that the words are
delivered one at a time; that one step delivers one word is the model's choice (log 17), and so is the counting down
(log 16). -/
def Obligations.StepRunsTheDeliveredWord : Prop :=
  ∀ (s : State) (op : HostOp) (x : Xfer) (b : Byte) (rest : List Byte), s.faults = [] → s.env.slack = 0 →
    s.host.op = some op → overlapDue s = none → s.host.xfer = some x → x.words = b :: rest →
    step s = deliverWord (busWord x.dc b) (takeWord x (countOverlap s)) ∧
    (∀ i, decode (busWord x.dc b) = .known i → step s = exec i (takeWord x (countOverlap s))) ∧
    (takeWord x (countOverlap s)).ctl = s.ctl ∧
    (takeWord x (countOverlap s)).host = { s.host with xfer := some { x with words := rest } } ∧
    (takeWord x (countOverlap s)).trace = s.trace ∧ (takeWord x (countOverlap s)).faults = []

/-- A word of the opcode table placed by `withFetchWord` is run by the very next step. -/
def Obligations.PlacedWordRunsNext : Prop :=
  ∀ (s : State) (nbits w : Nat) (i : Instr), s.faults = [] → decodeTableWord nbits w = some i →
    ∃ u, step (s.withFetchWord nbits w) = exec i u ∧ u.ctl = s.ctl ∧ u.cfg = s.cfg ∧ u.trace = s.trace ∧
      u.host.now = s.host.now ∧ u.host.rstN = s.host.rstN ∧ u.host.fsm = s.host.fsm

/-- R173: a state that holds a fault takes no step; a step keeps every fault there is; and at most one is raised. -/
def Obligations.FaultsAreStickyAndFinal : Prop :=
  (∀ (s : State) (f : Raised) (fs : List Raised), s.faults = f :: fs → step s = .fault (.stopped f)) ∧
  (∀ s t : State, step s = .next t → s.faults = [] ∧ FaultsOk t)

/-- R52: no step writes the parameters. -/
def Obligations.ConfigurationIsNeverWritten : Prop :=
  ∀ s t : State, step s = .next t → t.cfg = s.cfg

/-- R183, R28: the clock never goes back, and when it goes on, nothing else of the session changes; time that is to pass
before the next host step passes in a step of its own (log 13). -/
def Obligations.OnlyTimeMovesTheClock : Prop :=
  (∀ s t : State, step s = .next t →
    s.host.now ≤ t.host.now ∧
    (s.host.now ≠ t.host.now →
      t.host = { s.host with now := t.host.now } ∧ t.ctl = s.ctl ∧ t.faults = s.faults ∧ t.trace = s.trace)) ∧
  (∀ s : State, s.faults = [] → s.env.slack ≠ 0 → step s = .next { s with
    host := { s.host with now := s.host.now + s.env.slack }, env := { s.env with slack := 0 } })

/-- R127: a controller not reset since power-on leaves that state only when the reset line is driven. -/
def Obligations.OnlyResetLineLeavesUnknown : Prop :=
  ∀ s t : State, step s = .next t → s.ctl.parser = .unknown → t.ctl.parser ≠ .unknown →
    ∃ level gate, t.trace = s.trace ++ [.resetEdge s.host.now level] ∧ t.ctl = s.ctl.toReset.setSettle gate

/-- R166, R72: a step that changes the committed duty sends no bus word and leaves the controller alone. -/
def Obligations.BacklightIsOffThePixelPath : Prop :=
  ∀ s t : State, step s = .next t → (t.host.blDuty ≠ s.host.blDuty ∨ t.host.blCfg ≠ s.host.blCfg) →
    t.ctl = s.ctl ∧ ∃ code, t.host.blDuty = some code ∧ t.trace = s.trace ++ [.duty s.host.now code]

/-! ## Invariants -/

/-- The power-on state (R46, R47) meets every invariant stated below, and its parameters are well formed (R8, R9). That
an idle host has nothing left to do rests on the model's reset values of its own fields (log 21); the values of the
parameters are log 2 and log 3. -/
def Obligations.PowerOnMeetsInvariants : Prop :=
  FrameMemoryOk State.reset ∧ ParserOk State.reset ∧ ResetLineOk State.reset ∧ OperationOk State.reset ∧
  BacklightOk State.reset ∧ TraceOk State.reset ∧ FaultsOk State.reset ∧ State.reset.cfg.wf = true

/-- R55, R56, R61: every step keeps the frame memory canonical, inside its `2 * W * H` bytes, and without half a pixel. -/
def Obligations.StepKeepsFrameMemory : Prop :=
  ∀ s t : State, FrameMemoryOk s → step s = .next t → FrameMemoryOk t

/-- R31, R34, R35, R114, R116: every step keeps the parser's invariant; in particular the cursor of an open write never
leaves its window, and the window never leaves the display. -/
def Obligations.StepKeepsParser : Prop :=
  ∀ s t : State, ParserOk s → step s = .next t → ParserOk t

/-- R25, R31, R41, R127: every step keeps the reset line's invariant; a controller held in reset stays in its reset
state, and one never reset stays in its power-on state. -/
def Obligations.StepKeepsResetLine : Prop :=
  ∀ s t : State, ResetLineOk s → step s = .next t → ResetLineOk t

/-- R26, R27, R94, R138: every step keeps the operation's invariant; bring-up goes through its steps in order. -/
def Obligations.StepKeepsOperation : Prop :=
  ∀ s t : State, OperationOk s → step s = .next t → OperationOk t

/-- R29, R160: every step keeps the backlight's invariant; the committed duty never exceeds `DUTY_MAX`. -/
def Obligations.StepKeepsBacklight : Prop :=
  ∀ s t : State, BacklightOk s → step s = .next t → BacklightOk t

/-- R183, R94, R95, R110: every step keeps the trace in order of time, and the words of one transaction together and at
one level. That transaction numbers never fall along it is the model's: R95 says only that a number is fresh, and the model
takes the next one (log 20). -/
def Obligations.StepKeepsTrace : Prop :=
  ∀ s t : State, OperationOk s → TraceOk s → step s = .next t → TraceOk t

/-- Under the invariants the machine's own stops are never reached: a step that stops, stops because the session
already holds a fault of R170. And no step refuses. -/
def Obligations.NoStopButAHeldFault : Prop :=
  (∀ (s : State) (f : Fault), ParserOk s → ResetLineOk s → OperationOk s → step s = .fault f →
    ∃ g gs, s.faults = g :: gs ∧ f = .stopped g) ∧
  (∀ (s : State) (r : Refusal), step s ≠ .refused r)

/-! ## Transactions -/

/-- R97, R95: a transaction begun under a failing decision has, to deliver at its level, some prefix of its bytes and then
at most one other byte, and that only in place of a byte left out; and every such delivery is possible, with either error.
The form of a decision is the model's (log 27). -/
def Obligations.FailedTransactionDeliversPrefix : Prop :=
  (∀ (dc : Level) (bytes : List Byte) (s : State) (e : BusError) (k : Nat) (bad : Option Byte),
    s.env.nextBus = .error e k bad →
    ∃ n tail, n ≤ bytes.length ∧ tail.length ≤ 1 ∧ (n = bytes.length → tail = []) ∧
      (beginTransfer dc bytes s).host.xfer =
        some { dc := dc, words := bytes.take n ++ tail, error := some e, start := s.host.now }) ∧
  (∀ (bytes : List Byte) (e : BusError) (n : Nat) (tail : List Byte), n ≤ bytes.length → tail.length ≤ 1 →
    (n = bytes.length → tail = []) →
    ∃ k bad, ∀ (dc : Level) (s : State), s.env.nextBus = .error e k bad →
      (beginTransfer dc bytes s).host.xfer =
        some { dc := dc, words := bytes.take n ++ tail, error := some e, start := s.host.now })

/-- R105, R106, both the spec's own decision D41: a zero-length block performs no transaction and changes nothing (which errs
toward proving, log 26); a block longer than its buffer faults before any word is sent. -/
def Obligations.BlockLengthCorners : Prop :=
  ∀ (bytes : List Byte) (length : Nat) (s : State),
    sendDataBlock bytes 0 s = .next s ∧
    (bytes.length < length →
      sendDataBlock bytes length s = .next (s.addFault (.busLength length bytes.length)))

/-- R94 to R97, R102 to R104: a transport call sets the control line, takes a fresh number and the environment's
decision, whichever it is, and begins a transaction of the bytes that decision delivers (under `OK`: exactly the call's),
which will end as the decision says. The step of an operation between transactions makes the next call of its pseudocode
(R91, R138), each step being the call it names; after it only the inputs change. The model's own in it: where decisions come
from (log 12), the number being the next one (log 20), the form of a failing decision (log 27), one call a step (log 17), a
waiting concurrent call counted down (log 16), time drawn after it (log 13). -/
def Obligations.TransportCallBeginsTransaction : Prop :=
  (∀ (s : State) (b : Byte) (bytes : List Byte) (length : Nat), 0 < length → length ≤ bytes.length →
    sendCommand b s = .next { s with
      host := { s.host with dc := some false, txn := s.host.txn + 1,
                            xfer := some { dc := false, words := deliveredBytes [b] s.env.nextBus,
                                           error := choiceError s.env.nextBus, start := s.host.now } }
      env := s.env.dropBus } ∧
    sendData b s = .next { s with
      host := { s.host with dc := some true, txn := s.host.txn + 1,
                            xfer := some { dc := true, words := deliveredBytes [b] s.env.nextBus,
                                           error := choiceError s.env.nextBus, start := s.host.now } }
      env := s.env.dropBus } ∧
    sendDataBlock bytes length s = .next { s with
      host := { s.host with dc := some true, txn := s.host.txn + 1,
                            xfer := some { dc := true, words := deliveredBytes (bytes.take length) s.env.nextBus,
                                           error := choiceError s.env.nextBus, start := s.host.now } }
      env := s.env.dropBus } ∧
    (s.env.nextBus = .ok → (∀ sent, deliveredBytes sent s.env.nextBus = sent) ∧ choiceError s.env.nextBus = none) ∧
    (∀ e k bad, s.env.nextBus = .error e k bad → choiceError s.env.nextBus = some e)) ∧
  (∀ (s : State) (op : HostOp) (t : Task) (rest : List Task), s.faults = [] → s.env.slack = 0 → s.host.op = some op →
    overlapDue s = none → s.host.xfer = none → s.host.tasks = t :: rest → (t = .hold → s.host.wakeAt ≤ s.host.now) →
    (∀ u, runTask t { countOverlap s with host := { s.host with tasks := rest } } = .next u →
      ∃ e, step s = .next { u with env := e } ∧ e.calls = u.env.calls ∧ e.bus = u.env.bus) ∧
    (∀ f, runTask t { countOverlap s with host := { s.host with tasks := rest } } = .fault f → step s = .fault f)) ∧
  (∀ (s : State) (b : Byte) (bytes : List Byte) (n k p : Nat) (x1 y1 x2 y2 : Int) (v : Half) (level : Level),
    runTask (.command b) s = sendCommand b s ∧ runTask (.data b) s = sendData b s ∧
    runTask (.block bytes n) s = sendDataBlock bytes n s ∧ runTask (.window x1 y1 x2 y2) s = windowTask x1 y1 x2 y2 s ∧
    runTask (.fill v n) s = fillTask v n s ∧ runTask (.driveReset level) s = driveReset level s ∧
    runTask (.setBacklight p) s = setBacklight p s ∧
    runTask (.phase k) s = .next { s with host := { s.host with fsm := .bringup k } })

/-- R109, R141: a transaction that timed out holds the host, and only time passes, until `start + T_BUS_TIMEOUT`; then the
operation returns `BUS_TIMEOUT` (for bring-up `INIT_FAILED` with it, in `FAILED`). That every held step moves the clock on
is the fairness of R20 and R183 as the model takes it (log 14); that no time passes between the end of the hold and the
return is the model's choice (log 29). -/
def Obligations.TimeoutHoldsThenReturns : Prop :=
  ∀ (s : State) (op : HostOp) (x : Xfer), s.faults = [] → s.env.slack = 0 → s.host.op = some op →
    overlapDue s = none → s.host.xfer = some x → x.words = [] → x.error = some .timeout →
    (s.host.now < x.start + s.cfg.tBusTimeout →
      ∃ t, step s = .next t ∧ s.host.now < t.host.now ∧ t.host = { s.host with now := t.host.now } ∧ t.ctl = s.ctl ∧
        t.trace = s.trace ∧ t.faults = []) ∧
    (x.start + s.cfg.tBusTimeout ≤ s.host.now →
      ∃ t, step s = .next t ∧ t.host.op = none ∧ t.host.xfer = none ∧ t.host.tasks = [] ∧ t.ctl = s.ctl ∧ t.faults = [] ∧
        t.host.now = s.host.now ∧
        t.host.status = some (if op = .bringUp then .initFailed .timeout else .bus .timeout) ∧
        t.host.fsm = (if op = .bringUp then .failed else s.host.fsm) ∧
        (t.trace = s.trace ∨ t.trace = s.trace ++ [.flushDone s.host.now (.bus .timeout)]))

/-- R141, R171, R179: the first transaction that fails ends its operation at once: no step of it is left, nothing is
rolled back, and the caller gets the error; bring-up alone ends in `FAILED`, with `INIT_FAILED`. That no time passes
between the failure and the return is the model's choice (log 29). -/
def Obligations.FailedTransactionEndsOperation : Prop :=
  ∀ (s : State) (op : HostOp) (x : Xfer), s.faults = [] → s.env.slack = 0 → s.host.op = some op →
    overlapDue s = none → s.host.xfer = some x → x.words = [] → x.error = some .fail →
    ∃ t, step s = .next t ∧ t.host.op = none ∧ t.host.xfer = none ∧ t.host.tasks = [] ∧ t.ctl = s.ctl ∧ t.faults = [] ∧
      t.host.now = s.host.now ∧
      t.host.status = some (if op = .bringUp then .initFailed .fail else .bus .fail) ∧
      t.host.fsm = (if op = .bringUp then .failed else s.host.fsm) ∧
      (t.trace = s.trace ∨ t.trace = s.trace ++ [.flushDone s.host.now (.bus .fail)])

/-! ## Host operations -/

/-- R147, R174: a drawing operation called outside `READY` faults `NOT_READY` and does nothing else. R91, R93, R137: where
it is in `READY`, and for every other operation but bring-up always, the operation is then in progress and its steps are
those of its plan, or it raises the fault that its plan is; bring-up starts outside its own steps and enters step 1. R90:
seven operations are their one step. R93, R191: an idle host starts its caller's next call, and with none lets time pass.
The model's own in it: the plan as a list of steps (log 17), that `op` is set after a fault of the plan and not after
`NOT_READY` (log 18), the list of calls (log 15), time drawn after the start (log 13), time that goes on (log 14). -/
def Obligations.DrawingNeedsReady : Prop :=
  (∀ (s : State) (op : HostOp),
    (isDrawing op = true → s.host.fsm ≠ .ready → startOp op s = .next (s.addFault (.notReady op s.host.fsm))) ∧
    (∀ tasks, op ≠ .bringUp → (isDrawing op = true → s.host.fsm = .ready) → plan s.cfg op = .ok tasks →
      startOp op s = .next { s with host := { s.host with op := some op, tasks := tasks } }) ∧
    (∀ f, op ≠ .bringUp → (isDrawing op = true → s.host.fsm = .ready) → plan s.cfg op = .error f →
      startOp op s = .next (State.addFault { s with host := { s.host with op := some op } } f)) ∧
    ((∀ k, s.host.fsm ≠ .bringup k) →
      startOp .bringUp s = .next { s with
        host := { s.host with op := some .bringUp, fsm := .bringup 1, tasks := bringUpTasks s.cfg } })) ∧
  (∀ (c : Config) (b : Byte) (bytes : List Byte) (n : Nat) (x1 y1 x2 y2 : Int) (level : Level),
    plan c (.sendCommand b) = .ok [.command b] ∧ plan c (.sendData b) = .ok [.data b] ∧
    plan c (.sendDataBlock bytes n) = .ok [.block bytes n] ∧
    plan c (.setWindow x1 y1 x2 y2) = .ok [.window x1 y1 x2 y2] ∧
    plan c (.driveReset level) = .ok [.driveReset level] ∧ plan c (.delay n) = .ok [.delay n] ∧
    plan c (.setBacklight n) = .ok [.setBacklight n]) ∧
  (∀ (s : State) (c : Call) (rest : List Call), s.faults = [] → s.env.slack = 0 → s.host.op = none →
    s.env.calls = c :: rest →
    (∀ u, startOp c.op { s with env := { s.env with calls := rest } } = .next u →
      ∃ e, step s = .next { u with env := e } ∧ e.calls = rest ∧ e.bus = s.env.bus) ∧
    (∀ f, startOp c.op { s with env := { s.env with calls := rest } } = .fault f → step s = .fault f)) ∧
  (∀ s : State, s.faults = [] → s.env.slack = 0 → s.host.op = none → s.env.calls = [] →
    ∃ t, step s = .next t ∧ s.host.now < t.host.now ∧ t.host = { s.host with now := t.host.now } ∧ t.ctl = s.ctl ∧
      t.trace = s.trace ∧ t.faults = [])

/-- R180: a call that comes while an operation of the session is in progress faults, and nothing else happens. -/
def Obligations.OverlappingCallFaults : Prop :=
  ∀ (s : State) (op op' : HostOp) (rest : List Call), s.faults = [] → s.env.slack = 0 → s.host.op = some op →
    s.env.calls = { op := op', overlap := some 0 } :: rest →
    step s = .next (s.addFault (.concurrentAccess op op'))

/-- R119, R120: `set_window` with bounds that are unordered after the clip, or that start off the display, faults and
sends nothing; else the eleven transport calls of the clipped bounds, exactly split into bytes, stand before the steps left
of the operation, which all stay. -/
def Obligations.SetWindowClipsAndChecks : Prop :=
  ∀ (s : State) (x1 y1 x2 y2 : Int), s.cfg.wf = true →
    (¬(0 ≤ x1 ∧ x1 ≤ min x2 (s.cfg.w - 1) ∧ 0 ≤ y1 ∧ y1 ≤ min y2 (s.cfg.h - 1)) →
      windowTask x1 y1 x2 y2 s = .next (s.addFault (.setWindowArgs x1 y1 x2 y2))) ∧
    ((0 ≤ x1 ∧ x1 ≤ min x2 (s.cfg.w - 1) ∧ 0 ≤ y1 ∧ y1 ≤ min y2 (s.cfg.h - 1)) →
      ∃ a b c d : Half, (a.toNat : Int) = x1 ∧ (b.toNat : Int) = y1 ∧
        (c.toNat : Int) = min x2 (s.cfg.w - 1) ∧ (d.toNat : Int) = min y2 (s.cfg.h - 1) ∧
        windowLegal s.cfg a c b d = true ∧
        windowTask x1 y1 x2 y2 s =
          .next { s with host := { s.host with tasks := windowTasks a b c d ++ s.host.tasks } } ∧
        (windowTasks a b c d).length = 11 ∧ taskWords (windowTasks a b c d) = setWindowWords a b c d)

/-- R148, R149: a point off the display is dropped: no step at all; a point on it is one 1×1 window and two bytes. -/
def Obligations.DrawPixelPlan : Prop :=
  ∀ (c : Config) (x y : Int) (v : Half),
    (¬(0 ≤ x ∧ x < c.w ∧ 0 ≤ y ∧ y < c.h) → plan c (.drawPixel x y v) = .ok []) ∧
    ((0 ≤ x ∧ x < c.w ∧ 0 ≤ y ∧ y < c.h) →
      plan c (.drawPixel x y v) = .ok [.window x y x y, .block [hi8 v, lo8 v] 2])

/-- R151, R155: `fill_rect` clips on all four sides: with no visible cell it has no step; else one window, which
`set_window` accepts and does not clip again, and a fill of exactly two bytes for each visible cell. `fill_screen` is
`fill_rect` over the whole display, and is not clipped. -/
def Obligations.FillRectClipsOnAllSides : Prop :=
  ∀ (c : Config) (x y w h : Int) (v : Half), c.wf = true →
    ((min (x + w) c.w ≤ max x 0 ∨ min (y + h) c.h ≤ max y 0) → plan c (.fillRect x y w h v) = .ok []) ∧
    ((max x 0 < min (x + w) c.w ∧ max y 0 < min (y + h) c.h) →
      ∃ xa ya xb yb : Int, ∃ total : Nat,
        plan c (.fillRect x y w h v) = .ok [.window xa ya xb yb, .fill v total] ∧
        xa = max x 0 ∧ ya = max y 0 ∧ xb = min (x + w) c.w - 1 ∧ yb = min (y + h) c.h - 1 ∧
        windowArgsOk c xa ya xb yb = true ∧ clipX2 c xb = xb ∧ clipY2 c yb = yb ∧
        (total : Int) = (xb - xa + 1) * (yb - ya + 1) * 2 ∧ 0 < total) ∧
    plan c (.fillScreen v) = plan c (.fillRect 0 0 c.w c.h v) ∧
    plan c (.fillScreen v) = .ok [.window 0 0 (c.w - 1) (c.h - 1), .fill v (c.w * c.h * 2)]

/-- R152, R153: the chunks of a fill are `total div CHUNK_BYTES` full ones and then, if bytes are left, one of the rest;
each turn of the loop sends the first of them and leaves the others, and with no byte left the loop is over (R151); what it
sends is the colour repeated. -/
def Obligations.FillChunksAreFullThenRest : Prop :=
  ∀ (chunk total : Nat), 0 < chunk →
    (∀ fuel, total ≤ fuel → chunkSizes chunk fuel total =
      List.replicate (total / chunk) chunk ++ (if total % chunk = 0 then [] else [total % chunk])) ∧
    (∀ (s : State) (v : Half), s.cfg.chunkBytes = chunk → 0 < total →
      fillTask v total s = .next (pushTasks
        [.block (pattern v chunk) (min chunk total), .fill v (total - min chunk total)] s)) ∧
    (∀ (s : State) (v : Half), fillTask v 0 s = .next s) ∧
    (∀ (v : Half) (k : Nat), 2 * k ≤ chunk →
      (pattern v chunk).length = chunk ∧ (pattern v chunk).take (2 * k) = pixelBytes (List.replicate k v))

/-- R156: in `READY`, `flush` faults on a region not inside the display or a buffer too short for it; else it starts as one
window and one block of two bytes for each cell of the region, from the front of the buffer, of the length it states. The
model's own in it: one form of the fault for both cases (log 23), `op` after it (log 18), steps as a list (log 17). -/
def Obligations.FlushChecksThenSendsRegion : Prop :=
  ∀ (s : State) (x1 y1 x2 y2 : Int) (buf : List Half), s.host.fsm = .ready →
    (¬(0 ≤ x1 ∧ x1 ≤ x2 ∧ x2 < s.cfg.w ∧ 0 ≤ y1 ∧ y1 ≤ y2 ∧ y2 < s.cfg.h) →
      startOp (.flush x1 y1 x2 y2 buf) s =
        .next (State.addFault { s with host := { s.host with op := some (.flush x1 y1 x2 y2 buf) } }
          (.flushRegionInvalid x1 y1 x2 y2 buf.length none))) ∧
    ((0 ≤ x1 ∧ x1 ≤ x2 ∧ x2 < s.cfg.w ∧ 0 ≤ y1 ∧ y1 ≤ y2 ∧ y2 < s.cfg.h) →
      ∃ n : Nat, (n : Int) = (x2 - x1 + 1) * (y2 - y1 + 1) ∧
        (buf.length < n →
          startOp (.flush x1 y1 x2 y2 buf) s =
            .next (State.addFault { s with host := { s.host with op := some (.flush x1 y1 x2 y2 buf) } }
              (.flushRegionInvalid x1 y1 x2 y2 buf.length (some n)))) ∧
        (n ≤ buf.length → ∃ bytes, bytes = pixelBytes (buf.take n) ∧ bytes.length = 2 * n ∧
          startOp (.flush x1 y1 x2 y2 buf) s =
            .next { s with host := { s.host with
              op := some (.flush x1 y1 x2 y2 buf), tasks := [.window x1 y1 x2 y2, .block bytes (2 * n)] } }))

/-- R93, R137, R157, R169, R171, R176: an operation that returns leaves no step and no transaction, its status, and the
bring-up state unchanged but for bring-up's own; `flush` and no other operation signals its completion, once, when it
returns, with its status. With no step left the step of an operation is that return, with `OK`; and the end of an `OK`
transaction (R95, R96) lets the operation go on with the steps it has left. (That each of the two is a step is log 17.) -/
def Obligations.OnlyFlushSignalsCompletion : Prop :=
  (∀ (op : HostOp) (e : Option BusError) (s : State),
    (finishOp op e s).trace = s.trace ++
      (match op, e with
        | .flush _ _ _ _ _, none => [.flushDone s.host.now .ok]
        | .flush _ _ _ _ _, some b => [.flushDone s.host.now (.bus b)]
        | _, _ => []) ∧
    (finishOp op e s).host = { s.host with
      op := none, tasks := [], xfer := none
      status := some (match e with
        | none => .ok
        | some b => if op = .bringUp then .initFailed b else .bus b)
      fsm := if op = .bringUp then (if e = none then .ready else .failed) else s.host.fsm } ∧
    (finishOp op e s).ctl = s.ctl ∧ (finishOp op e s).faults = s.faults) ∧
  (∀ (s : State) (op : HostOp), s.faults = [] → s.env.slack = 0 → s.host.op = some op → overlapDue s = none →
    (s.host.xfer = none → s.host.tasks = [] →
      ∃ t, step s = .next t ∧ t.ctl = s.ctl ∧ t.faults = [] ∧ t.trace = (finishOp op none s).trace ∧
        t.host = { s.host with
          op := none, status := some .ok, fsm := if op = .bringUp then .ready else s.host.fsm }) ∧
    (∀ x, s.host.xfer = some x → x.words = [] → x.error = none →
      ∃ t, step s = .next t ∧ t.ctl = s.ctl ∧ t.faults = [] ∧ t.trace = s.trace ∧
        t.host = { s.host with xfer := none }))

/-- R125, R127, R128: driving the reset line low resets the controller at once and keeps the time of the first falling
edge; driving it high where it is not low is no reset; releasing it at least `T_RST_LOW` after the falling edge leaves the
reset state and the gate `T_RST_SETTLE`; releasing it earlier faults and does not perform the reset. That the gate stays on
assertion, and the line stays low after a short pulse, is log 11, read from R48 and R189. -/
def Obligations.ResetLineDrivesReset : Prop :=
  ∀ s : State,
    (s.host.rstN ≠ some false → driveReset false s = .next { s with
      trace := s.trace ++ [.resetEdge s.host.now false]
      host := { s.host with rstN := some false, rstLowSince := some s.host.now }
      ctl := s.ctl.toReset }) ∧
    (s.host.rstN = some false → driveReset false s = .next { s with
      trace := s.trace ++ [.resetEdge s.host.now false]
      ctl := s.ctl.toReset }) ∧
    (s.host.rstN ≠ some false → driveReset true s = .next { s with
      trace := s.trace ++ [.resetEdge s.host.now true]
      host := { s.host with rstN := some true } }) ∧
    (∀ since, s.host.rstN = some false → s.host.rstLowSince = some since → s.host.now - since < s.cfg.tRstLow →
      driveReset true s = .next
        ((s.addEvent (.resetEdge s.host.now true)).addFault (.resetPulseShort (s.host.now - since)))) ∧
    (∀ since, s.host.rstN = some false → s.host.rstLowSince = some since → s.cfg.tRstLow ≤ s.host.now - since →
      driveReset true s = .next { s with
        trace := s.trace ++ [.resetEdge s.host.now true]
        host := { s.host with rstN := some true, rstLowSince := none }
        ctl := { s.ctl.toReset with settleUntil := s.host.now + s.cfg.tRstSettle } })

/-- R126: `delay` holds the host until `now + ms`: while it is held, only time passes, by at least one millisecond a
step; when the time has come, the hold is over. That every held step moves the clock on is the fairness of R20 and R183
as the model takes it (log 14). -/
def Obligations.DelayHoldsUntilWakeTime : Prop :=
  ∀ (s : State) (op : HostOp) (ms : Nat) (rest : List Task), s.faults = [] → s.env.slack = 0 →
    s.host.op = some op → overlapDue s = none → s.host.xfer = none →
    (s.host.tasks = .delay ms :: rest →
      ∃ t, step s = .next t ∧ t.host.wakeAt = s.host.now + ms ∧ t.host.tasks = .hold :: rest ∧
        t.host.now = s.host.now ∧ t.ctl = s.ctl ∧ t.trace = s.trace) ∧
    (s.host.tasks = .hold :: rest → s.host.now < s.host.wakeAt →
      ∃ t, step s = .next t ∧ s.host.now < t.host.now ∧ t.host = { s.host with now := t.host.now } ∧ t.ctl = s.ctl) ∧
    (s.host.tasks = .hold :: rest → s.host.wakeAt ≤ s.host.now →
      ∃ t, step s = .next t ∧ t.host = { s.host with tasks := rest } ∧ t.ctl = s.ctl)

/-- R138, R140, R146, R145: bring-up begins with the two edges of the reset pulse, each with its delay, and ends with step 9,
which configures the backlight; it drives the line and the channel nowhere else. The words it sends are those of its steps
in order, each between the marks of its step, with INVON exactly when `INVERT_ON`; each step waits what R138 says and no
more (steps 4 and 5, and step 6 without INVON, nothing); no step of it is a block, a window or a fill; and every one of its
words that sets a gate is followed at once by the delay of that gate. -/
def Obligations.BringUpSendsItsStepsInOrder : Prop :=
  ∀ c : Config,
    (bringUpTasks c).take 5 =
      [.driveReset false, .delay c.tRstLow, .driveReset true, .delay c.tRstSettle, .phase 2] ∧
    (∃ pre, bringUpTasks c = pre ++ [.phase 9, .configureBacklight]) ∧
    (bringUpTasks c).filter actsOffBus = [.driveReset false, .driveReset true, .configureBacklight] ∧
    taskWords (bringUpTasks c) =
      [0x001#9, 0x011#9, 0x03A#9, busWord true c.colmod16bpp, 0x036#9, busWord true c.madctlDefault] ++
      (if c.invertOn then [0x021#9] else []) ++ [0x013#9, 0x029#9] ∧
    phases (bringUpTasks c) = [2, 3, 4, 5, 6, 7, 8, 9] ∧
    (∀ pre mid post k, bringUpTasks c = pre ++ .phase k :: mid ++ .phase (k + 1) :: post →
      taskWords mid = stepWords c k ∧ taskWaits mid = stepWaits c k) ∧
    (∀ t ∈ bringUpTasks c, t ≠ .hold ∧ (∀ bytes n, t ≠ .block bytes n) ∧ (∀ x1 y1 x2 y2, t ≠ .window x1 y1 x2 y2) ∧
      ∀ v n, t ≠ .fill v n) ∧
    (∀ pre post t, bringUpTasks c = pre ++ t :: post →
      (t = .driveReset false → post.head? = some (.delay c.tRstLow)) ∧
      (t = .driveReset true → post.head? = some (.delay c.tRstSettle)) ∧
      (t = .command 0x01 → post.head? = some (.delay c.tSwreset)) ∧
      (t = .command 0x11 → post.head? = some (.delay c.tSlpout)) ∧
      (t = .command 0x21 → post.head? = some (.delay c.tInvon)) ∧
      (t = .command 0x13 → post.head? = some (.delay c.tNoron)) ∧
      (t = .command 0x29 → post.head? = some (.delay c.tDispon)))

/-- R137: the transitions of the bring-up state: it starts from `UNINIT`, `READY` or `FAILED`, goes from each step to
the next, from step 9 to `READY`, from any step to `FAILED` on a transport error, and no other way. -/
def Obligations.BringUpTransitions : Prop :=
  ∀ s t : State, OperationOk s → step s = .next t → s.host.fsm ≠ t.host.fsm →
    ((∀ k, s.host.fsm ≠ .bringup k) ∧ s.host.op = none ∧ t.host.op = some .bringUp ∧ t.host.fsm = .bringup 1) ∨
    (∃ k, s.host.fsm = .bringup k ∧ k < 9 ∧ t.host.fsm = .bringup (k + 1)) ∨
    (s.host.fsm = .bringup 9 ∧ t.host.fsm = .ready ∧ t.host.status = some .ok) ∨
    (∃ k e, s.host.fsm = .bringup k ∧ t.host.fsm = .failed ∧ t.host.status = some (.initFailed e))

/-- R159: configuring the channel marks it configured and commits `DUTY_MAX`. R161, R162, R163, R167: `set_backlight`
before configuration faults; above 100 it faults and commits nothing; else it commits `(p * DUTY_MAX) div 100`. -/
def Obligations.SetBacklightCommitsDuty : Prop :=
  ∀ (s : State) (p : Nat),
    runTask .configureBacklight s = .next { s with
      host := { s.host with blCfg := true, blDuty := some s.cfg.dutyMax }
      trace := s.trace ++ [.duty s.host.now s.cfg.dutyMax] } ∧
    (s.host.blCfg = false → setBacklight p s = .next (s.addFault (.blNotConfigured p))) ∧
    (s.host.blCfg = true → 100 < p → setBacklight p s = .next (s.addFault (.blRange p))) ∧
    (s.host.blCfg = true → p ≤ 100 → setBacklight p s = .next { s with
      host := { s.host with blDuty := some (p * s.cfg.dutyMax / 100) }
      trace := s.trace ++ [.duty s.host.now (p * s.cfg.dutyMax / 100)] })

/-- R164: the end points of the duty map, that it keeps order, its bound, and that below 100 codes some percentages share
one. -/
def Obligations.DutyMapEndsAndOrder : Prop :=
  ∀ (c : Config) (p q : Nat), dutyOf c 0 = 0 ∧ dutyOf c 100 = c.dutyMax ∧
    (p ≤ q → dutyOf c p ≤ dutyOf c q) ∧ (p ≤ 100 → dutyOf c p ≤ c.dutyMax) ∧
    (c.dutyMax < 100 → ∃ a b, a < b ∧ b ≤ 100 ∧ dutyOf c a = dutyOf c b)

/-- R181: a step of one session leaves every other session as it was, and is that session's own step. The list of sessions,
one of which is chosen to step, is log 25. It does not say that the open choices of two sessions are independent: once their
listed inputs are used up, they draw from the same free values (log 30). -/
def Obligations.OtherSessionsKeepTheirStates : Prop :=
  ∀ (ss ts : List State) (i : Nat), sessionsStep ss i = some (.next ts) →
    (∃ s t, ss[i]? = some s ∧ step s = .next t ∧ ts[i]? = some t) ∧ (∀ j, j ≠ i → ts[j]? = ss[j]?) ∧
    ts.length = ss.length
end

