-- ==== Sys2Proof/Laws/Decode.lean ====
section
/-! SUPPORT. Lemmas about bus words, the decoder and the encoder. -/

namespace Sys2Proof

@[simp] theorem wordDc_busWord (dc : Level) (b : Byte) : wordDc (busWord dc b) = dc := by
  cases dc <;> revert b <;> decide

@[simp] theorem wordByte_busWord (dc : Level) (b : Byte) : wordByte (busWord dc b) = b := by
  cases dc <;> revert b <;> decide

@[simp] theorem busWord_parts (w : BusWord) : busWord (wordDc w) (wordByte w) = w := by
  revert w; decide

/-- A word of the table's row `i` is that row's instruction. -/
theorem decode_encode_data (b : Byte) : decode (busWord true b) = .known (.data b) := by
  revert b; decide

/-- A decoded word is the word of its instruction. -/
theorem encode_of_decode {w : BusWord} {i : Instr} (h : decode w = .known i) : encode i = w := by
  have key : ∀ w : BusWord, (match decode w with | .known i => decide (encode i = w) | .unknown _ => true) = true := by
    decide
  have := key w
  rw [h] at this
  exact of_decide_eq_true this

@[simp] theorem wordDc_encode_data (b : Byte) : wordDc (encode (.data b)) = true := wordDc_busWord true b
@[simp] theorem wordByte_encode_data (b : Byte) : wordByte (encode (.data b)) = b := wordByte_busWord true b

/-- An unknown verdict is given for command words only, with their own byte. -/
theorem word_of_decode_unknown {w : BusWord} {b : Byte} (h : decode w = .unknown b) : w = busWord false b := by
  have key : ∀ w : BusWord,
      (match decode w with | .known _ => true | .unknown b => decide (w = busWord false b)) = true := by decide
  have := key w
  rw [h] at this
  exact of_decide_eq_true this

end Sys2Proof
end

