-- ==== Sys2Proof/Laws/Memory.lean ====
section
/-! SUPPORT. Lemmas about the frame memory: read after write, what a write leaves alone, the canonical form. -/

namespace Sys2Proof.Machine

@[simp] theorem memRead_nil (k : Nat) : memRead [] k = none := rfl

/-- In a canonical memory whose first address is above `k`, `k` is unwritten. -/
theorem memRead_below {m : Memory} {k : Nat} (h : ∀ p ∈ m, k < p.1) : memRead m k = none := by
  induction m with
  | nil => rfl
  | cons p m ih =>
    have hp := h p (by simp)
    simp only [memRead]
    rw [if_neg (by omega)]
    exact ih (fun q hq => h q (by simp [hq]))

/-- Read after write, at the same address. -/
@[simp] theorem memRead_memWrite_same (m : Memory) (k : Nat) (b : Byte) : memRead (memWrite m k b) k = some b := by
  induction m with
  | nil => simp [memWrite, memRead]
  | cons p m ih =>
    simp only [memWrite]
    split
    · simp [memRead]
    · split
      · simp [memRead]
      · simp only [memRead]
        rw [if_neg (by assumption)]
        exact ih

/-- A write leaves every other address alone. -/
theorem memRead_memWrite_ne {m : Memory} {k j : Nat} (b : Byte) (h : j ≠ k) :
    memRead (memWrite m k b) j = memRead m j := by
  induction m with
  | nil => simp [memWrite, memRead, h]
  | cons p m ih =>
    simp only [memWrite]
    split
    · simp [memRead, h]
    · split
      · rename_i hk
        subst hk
        simp [memRead, h]
      · simp only [memRead, ih]

/-- The addresses of a written memory. -/
theorem mem_memWrite {m : Memory} {k : Nat} {b : Byte} {p : Host.Cell} (h : p ∈ memWrite m k b) :
    p = (k, b) ∨ p ∈ m := by
  induction m with
  | nil => simpa [memWrite] using h
  | cons q m ih =>
    simp only [memWrite] at h
    split at h
    · simpa using h
    · split at h
      · rcases List.mem_cons.1 h with h | h
        · exact .inl h
        · exact .inr (by simp [h])
      · rcases List.mem_cons.1 h with h | h
        · exact .inr (by simp [h])
        · rcases ih h with h | h
          · exact .inl h
          · exact .inr (by simp [h])

/-- A byte write keeps the canonical form. -/
theorem memWrite_wf {m : Memory} (k : Nat) (b : Byte) (h : m.wf) : (memWrite m k b).wf := by
  induction m with
  | nil => simp [Memory.wf, memWrite]
  | cons q m ih =>
    obtain ⟨hq, hm⟩ := List.pairwise_cons.1 h
    simp only [memWrite]
    split
    · rename_i hk
      refine List.pairwise_cons.2 ⟨fun p hp => ?_, h⟩
      rcases List.mem_cons.1 hp with rfl | hp
      · exact hk
      · exact Nat.lt_trans hk (hq p hp)
    · split
      · rename_i hk
        subst hk
        exact List.pairwise_cons.2 ⟨hq, hm⟩
      · refine List.pairwise_cons.2 ⟨fun p hp => ?_, ih hm⟩
        rcases mem_memWrite hp with rfl | hp
        · simp only; omega
        · exact hq p hp

/-- A cell write keeps the canonical form. -/
theorem fbWrite_wf {m : Memory} (c : Config) (x y : Nat) (v : Half) (h : m.wf) : (fbWrite c m x y v).wf :=
  memWrite_wf _ _ (memWrite_wf _ _ h)

/-- The memory after a reset is canonical (R48). -/
theorem toReset_wf (c : Controller) : c.toReset.fb.wf := List.Pairwise.nil

/-- The memory at power-on is canonical. -/
theorem reset_wf : State.reset.ctl.fb.wf := List.Pairwise.nil

/-- A cell write changes no byte but the two of its cell. -/
theorem memRead_fbWrite_ne {c : Config} {m : Memory} {x y k : Nat} (v : Half) (h : k ≠ cellAddr c x y)
    (h' : k ≠ cellAddr c x y + 1) : memRead (fbWrite c m x y v) k = memRead m k := by
  rw [fbWrite, memRead_memWrite_ne _ h', memRead_memWrite_ne _ h]

/-- The two bytes of a written cell. -/
theorem memRead_fbWrite_high (c : Config) (m : Memory) (x y : Nat) (v : Half) :
    memRead (fbWrite c m x y v) (cellAddr c x y) = some (hi8 v) := by
  rw [fbWrite, memRead_memWrite_ne _ (by omega), memRead_memWrite_same]

theorem memRead_fbWrite_low (c : Config) (m : Memory) (x y : Nat) (v : Half) :
    memRead (fbWrite c m x y v) (cellAddr c x y + 1) = some (lo8 v) := by
  rw [fbWrite, memRead_memWrite_same]

/-- A half is its two bytes (R11). -/
@[simp] theorem join16_hi8_lo8 (v : Half) : join16 (hi8 v) (lo8 v) = v := by
  simp only [join16, hi8, lo8]
  ext i hi
  simp only [BitVec.getElem_append, BitVec.getElem_extractLsb']
  split
  · simp [BitVec.getLsbD_eq_getElem hi]
  · have : 8 + (i - 8) = i := by omega
    rw [this, BitVec.getLsbD_eq_getElem hi]

@[simp] theorem hi8_join16 (h l : Byte) : hi8 (join16 h l) = h := by
  simp only [join16, hi8]
  ext i hi
  simp only [BitVec.getElem_extractLsb', BitVec.getLsbD_append]
  simp [BitVec.getLsbD_eq_getElem hi]

@[simp] theorem lo8_join16 (h l : Byte) : lo8 (join16 h l) = l := by
  simp only [join16, lo8]
  ext i hi
  simp only [BitVec.getElem_extractLsb', BitVec.getLsbD_append]
  have : 0 + i < 8 := by omega
  simp [hi]

/-- Read after write, of a cell (R57). -/
@[simp] theorem fbRead_fbWrite_same (c : Config) (m : Memory) (x y : Nat) (v : Half) :
    fbRead c (fbWrite c m x y v) x y = some v := by
  simp [fbRead, memRead_fbWrite_high, memRead_fbWrite_low]

/-- Distinct cells of the display have distinct addresses (R55). -/
theorem cellAddr_inj {c : Config} {x y x' y' : Nat} (hx : x < c.w) (hx' : x' < c.w)
    (h : cellAddr c x y = cellAddr c x' y') : x = x' ∧ y = y' := by
  unfold cellAddr at h
  have h2 : y * c.w + x = y' * c.w + x' := by omega
  have hy : y = y' := by
    have e1 : (y * c.w + x) / c.w = y := by
      rw [Nat.mul_comm, Nat.mul_add_div (by omega), Nat.div_eq_of_lt hx, Nat.add_zero]
    have e2 : (y' * c.w + x') / c.w = y' := by
      rw [Nat.mul_comm, Nat.mul_add_div (by omega), Nat.div_eq_of_lt hx', Nat.add_zero]
    rw [← e1, h2, e2]
  subst hy
  exact ⟨by omega, rfl⟩

/-- A cell write leaves every other cell of the display alone (R57). -/
theorem fbRead_fbWrite_ne {c : Config} {m : Memory} {x y x' y' : Nat} (v : Half) (hx : x < c.w) (hx' : x' < c.w)
    (h : ¬(x' = x ∧ y' = y)) : fbRead c (fbWrite c m x y v) x' y' = fbRead c m x' y' := by
  have hne : cellAddr c x' y' ≠ cellAddr c x y := fun e => h (cellAddr_inj hx' hx e)
  have even : ∀ a b, cellAddr c a b % 2 = 0 := fun a b => by unfold cellAddr; omega
  have e1 := even x y
  have e2 := even x' y'
  simp only [fbRead]
  rw [memRead_fbWrite_ne v hne (by omega), memRead_fbWrite_ne v (by omega) (by omega)]

/-- A cell of the display lies in the `2 * W * H` bytes of the frame memory (R56). -/
theorem cellAddr_lt {c : Config} {x y : Nat} (hx : x < c.w) (hy : y < c.h) :
    cellAddr c x y + 1 < 2 * (c.w * c.h) := by
  have h1 : y * c.w + c.w ≤ c.h * c.w := by
    rw [← Nat.succ_mul]
    exact Nat.mul_le_mul_right _ hy
  have h2 : c.h * c.w = c.w * c.h := Nat.mul_comm _ _
  unfold cellAddr
  omega

end Sys2Proof.Machine
end

