-- ==== Sys2Proof/Laws/State.lean ====
section
/-! SUPPORT. One lemma per field per update of the state, so that no proof unfolds a record update. -/

namespace Sys2Proof.Machine

/-! `State.setHost` -/
@[simp] theorem State.setHost_host (s : State) (h : HostSide) : (s.setHost h).host = h := rfl
@[simp] theorem State.setHost_ctl (s : State) (h : HostSide) : (s.setHost h).ctl = s.ctl := rfl
@[simp] theorem State.setHost_faults (s : State) (h : HostSide) : (s.setHost h).faults = s.faults := rfl
@[simp] theorem State.setHost_trace (s : State) (h : HostSide) : (s.setHost h).trace = s.trace := rfl
@[simp] theorem State.setHost_cfg (s : State) (h : HostSide) : (s.setHost h).cfg = s.cfg := rfl
@[simp] theorem State.setHost_env (s : State) (h : HostSide) : (s.setHost h).env = s.env := rfl

/-! `State.setCtl` -/
@[simp] theorem State.setCtl_host (s : State) (c : Controller) : (s.setCtl c).host = s.host := rfl
@[simp] theorem State.setCtl_ctl (s : State) (c : Controller) : (s.setCtl c).ctl = c := rfl
@[simp] theorem State.setCtl_faults (s : State) (c : Controller) : (s.setCtl c).faults = s.faults := rfl
@[simp] theorem State.setCtl_trace (s : State) (c : Controller) : (s.setCtl c).trace = s.trace := rfl
@[simp] theorem State.setCtl_cfg (s : State) (c : Controller) : (s.setCtl c).cfg = s.cfg := rfl
@[simp] theorem State.setCtl_env (s : State) (c : Controller) : (s.setCtl c).env = s.env := rfl

/-! `State.setEnv` -/
@[simp] theorem State.setEnv_host (s : State) (e : Env) : (s.setEnv e).host = s.host := rfl
@[simp] theorem State.setEnv_ctl (s : State) (e : Env) : (s.setEnv e).ctl = s.ctl := rfl
@[simp] theorem State.setEnv_faults (s : State) (e : Env) : (s.setEnv e).faults = s.faults := rfl
@[simp] theorem State.setEnv_trace (s : State) (e : Env) : (s.setEnv e).trace = s.trace := rfl
@[simp] theorem State.setEnv_cfg (s : State) (e : Env) : (s.setEnv e).cfg = s.cfg := rfl
@[simp] theorem State.setEnv_env (s : State) (e : Env) : (s.setEnv e).env = e := rfl

/-! `State.addEvent` -/
@[simp] theorem State.addEvent_host (s : State) (e : Event) : (s.addEvent e).host = s.host := rfl
@[simp] theorem State.addEvent_ctl (s : State) (e : Event) : (s.addEvent e).ctl = s.ctl := rfl
@[simp] theorem State.addEvent_faults (s : State) (e : Event) : (s.addEvent e).faults = s.faults := rfl
@[simp] theorem State.addEvent_trace (s : State) (e : Event) : (s.addEvent e).trace = s.trace ++ [e] := rfl
@[simp] theorem State.addEvent_cfg (s : State) (e : Event) : (s.addEvent e).cfg = s.cfg := rfl
@[simp] theorem State.addEvent_env (s : State) (e : Event) : (s.addEvent e).env = s.env := rfl

/-! `State.addFault` -/
@[simp] theorem State.addFault_host (s : State) (f : Raised) : (s.addFault f).host = s.host := rfl
@[simp] theorem State.addFault_ctl (s : State) (f : Raised) : (s.addFault f).ctl = s.ctl := rfl
@[simp] theorem State.addFault_faults (s : State) (f : Raised) : (s.addFault f).faults = insertFault s.faults f := rfl
@[simp] theorem State.addFault_trace (s : State) (f : Raised) : (s.addFault f).trace = s.trace := rfl
@[simp] theorem State.addFault_cfg (s : State) (f : Raised) : (s.addFault f).cfg = s.cfg := rfl
@[simp] theorem State.addFault_env (s : State) (f : Raised) : (s.addFault f).env = s.env := rfl

/-! `HostSide.setDc` -/
@[simp] theorem HostSide.setDc_dc (h : HostSide) (l : Level) : (h.setDc l).dc = some l := rfl
@[simp] theorem HostSide.setDc_rstN (h : HostSide) (l : Level) : (h.setDc l).rstN = h.rstN := rfl
@[simp] theorem HostSide.setDc_rstLowSince (h : HostSide) (l : Level) : (h.setDc l).rstLowSince = h.rstLowSince := rfl
@[simp] theorem HostSide.setDc_op (h : HostSide) (l : Level) : (h.setDc l).op = h.op := rfl
@[simp] theorem HostSide.setDc_fsm (h : HostSide) (l : Level) : (h.setDc l).fsm = h.fsm := rfl
@[simp] theorem HostSide.setDc_now (h : HostSide) (l : Level) : (h.setDc l).now = h.now := rfl
@[simp] theorem HostSide.setDc_wakeAt (h : HostSide) (l : Level) : (h.setDc l).wakeAt = h.wakeAt := rfl
@[simp] theorem HostSide.setDc_blCfg (h : HostSide) (l : Level) : (h.setDc l).blCfg = h.blCfg := rfl
@[simp] theorem HostSide.setDc_blDuty (h : HostSide) (l : Level) : (h.setDc l).blDuty = h.blDuty := rfl
@[simp] theorem HostSide.setDc_tasks (h : HostSide) (l : Level) : (h.setDc l).tasks = h.tasks := rfl
@[simp] theorem HostSide.setDc_xfer (h : HostSide) (l : Level) : (h.setDc l).xfer = h.xfer := rfl
@[simp] theorem HostSide.setDc_txn (h : HostSide) (l : Level) : (h.setDc l).txn = h.txn := rfl
@[simp] theorem HostSide.setDc_status (h : HostSide) (l : Level) : (h.setDc l).status = h.status := rfl

/-! `HostSide.setRst` -/
@[simp] theorem HostSide.setRst_dc (h : HostSide) (l : Level) (t : Option Nat) : (h.setRst l t).dc = h.dc := rfl
@[simp] theorem HostSide.setRst_rstN (h : HostSide) (l : Level) (t : Option Nat) : (h.setRst l t).rstN = some l := rfl
@[simp] theorem HostSide.setRst_rstLowSince (h : HostSide) (l : Level) (t : Option Nat) : (h.setRst l t).rstLowSince = t := rfl
@[simp] theorem HostSide.setRst_op (h : HostSide) (l : Level) (t : Option Nat) : (h.setRst l t).op = h.op := rfl
@[simp] theorem HostSide.setRst_fsm (h : HostSide) (l : Level) (t : Option Nat) : (h.setRst l t).fsm = h.fsm := rfl
@[simp] theorem HostSide.setRst_now (h : HostSide) (l : Level) (t : Option Nat) : (h.setRst l t).now = h.now := rfl
@[simp] theorem HostSide.setRst_wakeAt (h : HostSide) (l : Level) (t : Option Nat) : (h.setRst l t).wakeAt = h.wakeAt := rfl
@[simp] theorem HostSide.setRst_blCfg (h : HostSide) (l : Level) (t : Option Nat) : (h.setRst l t).blCfg = h.blCfg := rfl
@[simp] theorem HostSide.setRst_blDuty (h : HostSide) (l : Level) (t : Option Nat) : (h.setRst l t).blDuty = h.blDuty := rfl
@[simp] theorem HostSide.setRst_tasks (h : HostSide) (l : Level) (t : Option Nat) : (h.setRst l t).tasks = h.tasks := rfl
@[simp] theorem HostSide.setRst_xfer (h : HostSide) (l : Level) (t : Option Nat) : (h.setRst l t).xfer = h.xfer := rfl
@[simp] theorem HostSide.setRst_txn (h : HostSide) (l : Level) (t : Option Nat) : (h.setRst l t).txn = h.txn := rfl
@[simp] theorem HostSide.setRst_status (h : HostSide) (l : Level) (t : Option Nat) : (h.setRst l t).status = h.status := rfl

/-! `HostSide.setOp` -/
@[simp] theorem HostSide.setOp_dc (h : HostSide) (o : Option HostOp) : (h.setOp o).dc = h.dc := rfl
@[simp] theorem HostSide.setOp_rstN (h : HostSide) (o : Option HostOp) : (h.setOp o).rstN = h.rstN := rfl
@[simp] theorem HostSide.setOp_rstLowSince (h : HostSide) (o : Option HostOp) : (h.setOp o).rstLowSince = h.rstLowSince := rfl
@[simp] theorem HostSide.setOp_op (h : HostSide) (o : Option HostOp) : (h.setOp o).op = o := rfl
@[simp] theorem HostSide.setOp_fsm (h : HostSide) (o : Option HostOp) : (h.setOp o).fsm = h.fsm := rfl
@[simp] theorem HostSide.setOp_now (h : HostSide) (o : Option HostOp) : (h.setOp o).now = h.now := rfl
@[simp] theorem HostSide.setOp_wakeAt (h : HostSide) (o : Option HostOp) : (h.setOp o).wakeAt = h.wakeAt := rfl
@[simp] theorem HostSide.setOp_blCfg (h : HostSide) (o : Option HostOp) : (h.setOp o).blCfg = h.blCfg := rfl
@[simp] theorem HostSide.setOp_blDuty (h : HostSide) (o : Option HostOp) : (h.setOp o).blDuty = h.blDuty := rfl
@[simp] theorem HostSide.setOp_tasks (h : HostSide) (o : Option HostOp) : (h.setOp o).tasks = h.tasks := rfl
@[simp] theorem HostSide.setOp_xfer (h : HostSide) (o : Option HostOp) : (h.setOp o).xfer = h.xfer := rfl
@[simp] theorem HostSide.setOp_txn (h : HostSide) (o : Option HostOp) : (h.setOp o).txn = h.txn := rfl
@[simp] theorem HostSide.setOp_status (h : HostSide) (o : Option HostOp) : (h.setOp o).status = h.status := rfl

/-! `HostSide.setFsm` -/
@[simp] theorem HostSide.setFsm_dc (h : HostSide) (f : Fsm) : (h.setFsm f).dc = h.dc := rfl
@[simp] theorem HostSide.setFsm_rstN (h : HostSide) (f : Fsm) : (h.setFsm f).rstN = h.rstN := rfl
@[simp] theorem HostSide.setFsm_rstLowSince (h : HostSide) (f : Fsm) : (h.setFsm f).rstLowSince = h.rstLowSince := rfl
@[simp] theorem HostSide.setFsm_op (h : HostSide) (f : Fsm) : (h.setFsm f).op = h.op := rfl
@[simp] theorem HostSide.setFsm_fsm (h : HostSide) (f : Fsm) : (h.setFsm f).fsm = f := rfl
@[simp] theorem HostSide.setFsm_now (h : HostSide) (f : Fsm) : (h.setFsm f).now = h.now := rfl
@[simp] theorem HostSide.setFsm_wakeAt (h : HostSide) (f : Fsm) : (h.setFsm f).wakeAt = h.wakeAt := rfl
@[simp] theorem HostSide.setFsm_blCfg (h : HostSide) (f : Fsm) : (h.setFsm f).blCfg = h.blCfg := rfl
@[simp] theorem HostSide.setFsm_blDuty (h : HostSide) (f : Fsm) : (h.setFsm f).blDuty = h.blDuty := rfl
@[simp] theorem HostSide.setFsm_tasks (h : HostSide) (f : Fsm) : (h.setFsm f).tasks = h.tasks := rfl
@[simp] theorem HostSide.setFsm_xfer (h : HostSide) (f : Fsm) : (h.setFsm f).xfer = h.xfer := rfl
@[simp] theorem HostSide.setFsm_txn (h : HostSide) (f : Fsm) : (h.setFsm f).txn = h.txn := rfl
@[simp] theorem HostSide.setFsm_status (h : HostSide) (f : Fsm) : (h.setFsm f).status = h.status := rfl

/-! `HostSide.setNow` -/
@[simp] theorem HostSide.setNow_dc (h : HostSide) (t : Nat) : (h.setNow t).dc = h.dc := rfl
@[simp] theorem HostSide.setNow_rstN (h : HostSide) (t : Nat) : (h.setNow t).rstN = h.rstN := rfl
@[simp] theorem HostSide.setNow_rstLowSince (h : HostSide) (t : Nat) : (h.setNow t).rstLowSince = h.rstLowSince := rfl
@[simp] theorem HostSide.setNow_op (h : HostSide) (t : Nat) : (h.setNow t).op = h.op := rfl
@[simp] theorem HostSide.setNow_fsm (h : HostSide) (t : Nat) : (h.setNow t).fsm = h.fsm := rfl
@[simp] theorem HostSide.setNow_now (h : HostSide) (t : Nat) : (h.setNow t).now = t := rfl
@[simp] theorem HostSide.setNow_wakeAt (h : HostSide) (t : Nat) : (h.setNow t).wakeAt = h.wakeAt := rfl
@[simp] theorem HostSide.setNow_blCfg (h : HostSide) (t : Nat) : (h.setNow t).blCfg = h.blCfg := rfl
@[simp] theorem HostSide.setNow_blDuty (h : HostSide) (t : Nat) : (h.setNow t).blDuty = h.blDuty := rfl
@[simp] theorem HostSide.setNow_tasks (h : HostSide) (t : Nat) : (h.setNow t).tasks = h.tasks := rfl
@[simp] theorem HostSide.setNow_xfer (h : HostSide) (t : Nat) : (h.setNow t).xfer = h.xfer := rfl
@[simp] theorem HostSide.setNow_txn (h : HostSide) (t : Nat) : (h.setNow t).txn = h.txn := rfl
@[simp] theorem HostSide.setNow_status (h : HostSide) (t : Nat) : (h.setNow t).status = h.status := rfl

/-! `HostSide.setWakeAt` -/
@[simp] theorem HostSide.setWakeAt_dc (h : HostSide) (t : Nat) : (h.setWakeAt t).dc = h.dc := rfl
@[simp] theorem HostSide.setWakeAt_rstN (h : HostSide) (t : Nat) : (h.setWakeAt t).rstN = h.rstN := rfl
@[simp] theorem HostSide.setWakeAt_rstLowSince (h : HostSide) (t : Nat) : (h.setWakeAt t).rstLowSince = h.rstLowSince := rfl
@[simp] theorem HostSide.setWakeAt_op (h : HostSide) (t : Nat) : (h.setWakeAt t).op = h.op := rfl
@[simp] theorem HostSide.setWakeAt_fsm (h : HostSide) (t : Nat) : (h.setWakeAt t).fsm = h.fsm := rfl
@[simp] theorem HostSide.setWakeAt_now (h : HostSide) (t : Nat) : (h.setWakeAt t).now = h.now := rfl
@[simp] theorem HostSide.setWakeAt_wakeAt (h : HostSide) (t : Nat) : (h.setWakeAt t).wakeAt = t := rfl
@[simp] theorem HostSide.setWakeAt_blCfg (h : HostSide) (t : Nat) : (h.setWakeAt t).blCfg = h.blCfg := rfl
@[simp] theorem HostSide.setWakeAt_blDuty (h : HostSide) (t : Nat) : (h.setWakeAt t).blDuty = h.blDuty := rfl
@[simp] theorem HostSide.setWakeAt_tasks (h : HostSide) (t : Nat) : (h.setWakeAt t).tasks = h.tasks := rfl
@[simp] theorem HostSide.setWakeAt_xfer (h : HostSide) (t : Nat) : (h.setWakeAt t).xfer = h.xfer := rfl
@[simp] theorem HostSide.setWakeAt_txn (h : HostSide) (t : Nat) : (h.setWakeAt t).txn = h.txn := rfl
@[simp] theorem HostSide.setWakeAt_status (h : HostSide) (t : Nat) : (h.setWakeAt t).status = h.status := rfl

/-! `HostSide.setDuty` -/
@[simp] theorem HostSide.setDuty_dc (h : HostSide) (d : Nat) : (h.setDuty d).dc = h.dc := rfl
@[simp] theorem HostSide.setDuty_rstN (h : HostSide) (d : Nat) : (h.setDuty d).rstN = h.rstN := rfl
@[simp] theorem HostSide.setDuty_rstLowSince (h : HostSide) (d : Nat) : (h.setDuty d).rstLowSince = h.rstLowSince := rfl
@[simp] theorem HostSide.setDuty_op (h : HostSide) (d : Nat) : (h.setDuty d).op = h.op := rfl
@[simp] theorem HostSide.setDuty_fsm (h : HostSide) (d : Nat) : (h.setDuty d).fsm = h.fsm := rfl
@[simp] theorem HostSide.setDuty_now (h : HostSide) (d : Nat) : (h.setDuty d).now = h.now := rfl
@[simp] theorem HostSide.setDuty_wakeAt (h : HostSide) (d : Nat) : (h.setDuty d).wakeAt = h.wakeAt := rfl
@[simp] theorem HostSide.setDuty_blCfg (h : HostSide) (d : Nat) : (h.setDuty d).blCfg = h.blCfg := rfl
@[simp] theorem HostSide.setDuty_blDuty (h : HostSide) (d : Nat) : (h.setDuty d).blDuty = some d := rfl
@[simp] theorem HostSide.setDuty_tasks (h : HostSide) (d : Nat) : (h.setDuty d).tasks = h.tasks := rfl
@[simp] theorem HostSide.setDuty_xfer (h : HostSide) (d : Nat) : (h.setDuty d).xfer = h.xfer := rfl
@[simp] theorem HostSide.setDuty_txn (h : HostSide) (d : Nat) : (h.setDuty d).txn = h.txn := rfl
@[simp] theorem HostSide.setDuty_status (h : HostSide) (d : Nat) : (h.setDuty d).status = h.status := rfl

/-! `HostSide.setTasks` -/
@[simp] theorem HostSide.setTasks_dc (h : HostSide) (ts : List Task) : (h.setTasks ts).dc = h.dc := rfl
@[simp] theorem HostSide.setTasks_rstN (h : HostSide) (ts : List Task) : (h.setTasks ts).rstN = h.rstN := rfl
@[simp] theorem HostSide.setTasks_rstLowSince (h : HostSide) (ts : List Task) : (h.setTasks ts).rstLowSince = h.rstLowSince := rfl
@[simp] theorem HostSide.setTasks_op (h : HostSide) (ts : List Task) : (h.setTasks ts).op = h.op := rfl
@[simp] theorem HostSide.setTasks_fsm (h : HostSide) (ts : List Task) : (h.setTasks ts).fsm = h.fsm := rfl
@[simp] theorem HostSide.setTasks_now (h : HostSide) (ts : List Task) : (h.setTasks ts).now = h.now := rfl
@[simp] theorem HostSide.setTasks_wakeAt (h : HostSide) (ts : List Task) : (h.setTasks ts).wakeAt = h.wakeAt := rfl
@[simp] theorem HostSide.setTasks_blCfg (h : HostSide) (ts : List Task) : (h.setTasks ts).blCfg = h.blCfg := rfl
@[simp] theorem HostSide.setTasks_blDuty (h : HostSide) (ts : List Task) : (h.setTasks ts).blDuty = h.blDuty := rfl
@[simp] theorem HostSide.setTasks_tasks (h : HostSide) (ts : List Task) : (h.setTasks ts).tasks = ts := rfl
@[simp] theorem HostSide.setTasks_xfer (h : HostSide) (ts : List Task) : (h.setTasks ts).xfer = h.xfer := rfl
@[simp] theorem HostSide.setTasks_txn (h : HostSide) (ts : List Task) : (h.setTasks ts).txn = h.txn := rfl
@[simp] theorem HostSide.setTasks_status (h : HostSide) (ts : List Task) : (h.setTasks ts).status = h.status := rfl

/-! `HostSide.setXfer` -/
@[simp] theorem HostSide.setXfer_dc (h : HostSide) (x : Option Xfer) : (h.setXfer x).dc = h.dc := rfl
@[simp] theorem HostSide.setXfer_rstN (h : HostSide) (x : Option Xfer) : (h.setXfer x).rstN = h.rstN := rfl
@[simp] theorem HostSide.setXfer_rstLowSince (h : HostSide) (x : Option Xfer) : (h.setXfer x).rstLowSince = h.rstLowSince := rfl
@[simp] theorem HostSide.setXfer_op (h : HostSide) (x : Option Xfer) : (h.setXfer x).op = h.op := rfl
@[simp] theorem HostSide.setXfer_fsm (h : HostSide) (x : Option Xfer) : (h.setXfer x).fsm = h.fsm := rfl
@[simp] theorem HostSide.setXfer_now (h : HostSide) (x : Option Xfer) : (h.setXfer x).now = h.now := rfl
@[simp] theorem HostSide.setXfer_wakeAt (h : HostSide) (x : Option Xfer) : (h.setXfer x).wakeAt = h.wakeAt := rfl
@[simp] theorem HostSide.setXfer_blCfg (h : HostSide) (x : Option Xfer) : (h.setXfer x).blCfg = h.blCfg := rfl
@[simp] theorem HostSide.setXfer_blDuty (h : HostSide) (x : Option Xfer) : (h.setXfer x).blDuty = h.blDuty := rfl
@[simp] theorem HostSide.setXfer_tasks (h : HostSide) (x : Option Xfer) : (h.setXfer x).tasks = h.tasks := rfl
@[simp] theorem HostSide.setXfer_xfer (h : HostSide) (x : Option Xfer) : (h.setXfer x).xfer = x := rfl
@[simp] theorem HostSide.setXfer_txn (h : HostSide) (x : Option Xfer) : (h.setXfer x).txn = h.txn := rfl
@[simp] theorem HostSide.setXfer_status (h : HostSide) (x : Option Xfer) : (h.setXfer x).status = h.status := rfl

/-! `HostSide.nextTxn` -/
@[simp] theorem HostSide.nextTxn_dc (h : HostSide) : (h.nextTxn).dc = h.dc := rfl
@[simp] theorem HostSide.nextTxn_rstN (h : HostSide) : (h.nextTxn).rstN = h.rstN := rfl
@[simp] theorem HostSide.nextTxn_rstLowSince (h : HostSide) : (h.nextTxn).rstLowSince = h.rstLowSince := rfl
@[simp] theorem HostSide.nextTxn_op (h : HostSide) : (h.nextTxn).op = h.op := rfl
@[simp] theorem HostSide.nextTxn_fsm (h : HostSide) : (h.nextTxn).fsm = h.fsm := rfl
@[simp] theorem HostSide.nextTxn_now (h : HostSide) : (h.nextTxn).now = h.now := rfl
@[simp] theorem HostSide.nextTxn_wakeAt (h : HostSide) : (h.nextTxn).wakeAt = h.wakeAt := rfl
@[simp] theorem HostSide.nextTxn_blCfg (h : HostSide) : (h.nextTxn).blCfg = h.blCfg := rfl
@[simp] theorem HostSide.nextTxn_blDuty (h : HostSide) : (h.nextTxn).blDuty = h.blDuty := rfl
@[simp] theorem HostSide.nextTxn_tasks (h : HostSide) : (h.nextTxn).tasks = h.tasks := rfl
@[simp] theorem HostSide.nextTxn_xfer (h : HostSide) : (h.nextTxn).xfer = h.xfer := rfl
@[simp] theorem HostSide.nextTxn_txn (h : HostSide) : (h.nextTxn).txn = h.txn + 1 := rfl
@[simp] theorem HostSide.nextTxn_status (h : HostSide) : (h.nextTxn).status = h.status := rfl

/-! `HostSide.setStatus` -/
@[simp] theorem HostSide.setStatus_dc (h : HostSide) (st : Status) : (h.setStatus st).dc = h.dc := rfl
@[simp] theorem HostSide.setStatus_rstN (h : HostSide) (st : Status) : (h.setStatus st).rstN = h.rstN := rfl
@[simp] theorem HostSide.setStatus_rstLowSince (h : HostSide) (st : Status) : (h.setStatus st).rstLowSince = h.rstLowSince := rfl
@[simp] theorem HostSide.setStatus_op (h : HostSide) (st : Status) : (h.setStatus st).op = h.op := rfl
@[simp] theorem HostSide.setStatus_fsm (h : HostSide) (st : Status) : (h.setStatus st).fsm = h.fsm := rfl
@[simp] theorem HostSide.setStatus_now (h : HostSide) (st : Status) : (h.setStatus st).now = h.now := rfl
@[simp] theorem HostSide.setStatus_wakeAt (h : HostSide) (st : Status) : (h.setStatus st).wakeAt = h.wakeAt := rfl
@[simp] theorem HostSide.setStatus_blCfg (h : HostSide) (st : Status) : (h.setStatus st).blCfg = h.blCfg := rfl
@[simp] theorem HostSide.setStatus_blDuty (h : HostSide) (st : Status) : (h.setStatus st).blDuty = h.blDuty := rfl
@[simp] theorem HostSide.setStatus_tasks (h : HostSide) (st : Status) : (h.setStatus st).tasks = h.tasks := rfl
@[simp] theorem HostSide.setStatus_xfer (h : HostSide) (st : Status) : (h.setStatus st).xfer = h.xfer := rfl
@[simp] theorem HostSide.setStatus_txn (h : HostSide) (st : Status) : (h.setStatus st).txn = h.txn := rfl
@[simp] theorem HostSide.setStatus_status (h : HostSide) (st : Status) : (h.setStatus st).status = some st := rfl

/-! `HostSide.setBlCfg` -/
@[simp] theorem HostSide.setBlCfg_dc (h : HostSide) : (h.setBlCfg).dc = h.dc := rfl
@[simp] theorem HostSide.setBlCfg_rstN (h : HostSide) : (h.setBlCfg).rstN = h.rstN := rfl
@[simp] theorem HostSide.setBlCfg_rstLowSince (h : HostSide) : (h.setBlCfg).rstLowSince = h.rstLowSince := rfl
@[simp] theorem HostSide.setBlCfg_op (h : HostSide) : (h.setBlCfg).op = h.op := rfl
@[simp] theorem HostSide.setBlCfg_fsm (h : HostSide) : (h.setBlCfg).fsm = h.fsm := rfl
@[simp] theorem HostSide.setBlCfg_now (h : HostSide) : (h.setBlCfg).now = h.now := rfl
@[simp] theorem HostSide.setBlCfg_wakeAt (h : HostSide) : (h.setBlCfg).wakeAt = h.wakeAt := rfl
@[simp] theorem HostSide.setBlCfg_blCfg (h : HostSide) : (h.setBlCfg).blCfg = true := rfl
@[simp] theorem HostSide.setBlCfg_blDuty (h : HostSide) : (h.setBlCfg).blDuty = h.blDuty := rfl
@[simp] theorem HostSide.setBlCfg_tasks (h : HostSide) : (h.setBlCfg).tasks = h.tasks := rfl
@[simp] theorem HostSide.setBlCfg_xfer (h : HostSide) : (h.setBlCfg).xfer = h.xfer := rfl
@[simp] theorem HostSide.setBlCfg_txn (h : HostSide) : (h.setBlCfg).txn = h.txn := rfl
@[simp] theorem HostSide.setBlCfg_status (h : HostSide) : (h.setBlCfg).status = h.status := rfl

/-! `Controller.setParser` -/
@[simp] theorem Controller.setParser_parser (c : Controller) (p : Parser) : (c.setParser p).parser = p := rfl
@[simp] theorem Controller.setParser_xs (c : Controller) (p : Parser) : (c.setParser p).xs = c.xs := rfl
@[simp] theorem Controller.setParser_xe (c : Controller) (p : Parser) : (c.setParser p).xe = c.xe := rfl
@[simp] theorem Controller.setParser_ys (c : Controller) (p : Parser) : (c.setParser p).ys = c.ys := rfl
@[simp] theorem Controller.setParser_ye (c : Controller) (p : Parser) : (c.setParser p).ye = c.ye := rfl
@[simp] theorem Controller.setParser_cx (c : Controller) (p : Parser) : (c.setParser p).cx = c.cx := rfl
@[simp] theorem Controller.setParser_cy (c : Controller) (p : Parser) : (c.setParser p).cy = c.cy := rfl
@[simp] theorem Controller.setParser_exhausted (c : Controller) (p : Parser) : (c.setParser p).exhausted = c.exhausted := rfl
@[simp] theorem Controller.setParser_pend (c : Controller) (p : Parser) : (c.setParser p).pend = c.pend := rfl
@[simp] theorem Controller.setParser_madctl (c : Controller) (p : Parser) : (c.setParser p).madctl = c.madctl := rfl
@[simp] theorem Controller.setParser_colmod (c : Controller) (p : Parser) : (c.setParser p).colmod = c.colmod := rfl
@[simp] theorem Controller.setParser_sleepOut (c : Controller) (p : Parser) : (c.setParser p).sleepOut = c.sleepOut := rfl
@[simp] theorem Controller.setParser_normalOn (c : Controller) (p : Parser) : (c.setParser p).normalOn = c.normalOn := rfl
@[simp] theorem Controller.setParser_invOn (c : Controller) (p : Parser) : (c.setParser p).invOn = c.invOn := rfl
@[simp] theorem Controller.setParser_dispOn (c : Controller) (p : Parser) : (c.setParser p).dispOn = c.dispOn := rfl
@[simp] theorem Controller.setParser_settleUntil (c : Controller) (p : Parser) : (c.setParser p).settleUntil = c.settleUntil := rfl
@[simp] theorem Controller.setParser_fb (c : Controller) (p : Parser) : (c.setParser p).fb = c.fb := rfl

/-! `Controller.setColumns` -/
@[simp] theorem Controller.setColumns_parser (c : Controller) (b : Half × Half) : (c.setColumns b).parser = c.parser := rfl
@[simp] theorem Controller.setColumns_xs (c : Controller) (b : Half × Half) : (c.setColumns b).xs = some b.1 := rfl
@[simp] theorem Controller.setColumns_xe (c : Controller) (b : Half × Half) : (c.setColumns b).xe = some b.2 := rfl
@[simp] theorem Controller.setColumns_ys (c : Controller) (b : Half × Half) : (c.setColumns b).ys = c.ys := rfl
@[simp] theorem Controller.setColumns_ye (c : Controller) (b : Half × Half) : (c.setColumns b).ye = c.ye := rfl
@[simp] theorem Controller.setColumns_cx (c : Controller) (b : Half × Half) : (c.setColumns b).cx = c.cx := rfl
@[simp] theorem Controller.setColumns_cy (c : Controller) (b : Half × Half) : (c.setColumns b).cy = c.cy := rfl
@[simp] theorem Controller.setColumns_exhausted (c : Controller) (b : Half × Half) : (c.setColumns b).exhausted = c.exhausted := rfl
@[simp] theorem Controller.setColumns_pend (c : Controller) (b : Half × Half) : (c.setColumns b).pend = c.pend := rfl
@[simp] theorem Controller.setColumns_madctl (c : Controller) (b : Half × Half) : (c.setColumns b).madctl = c.madctl := rfl
@[simp] theorem Controller.setColumns_colmod (c : Controller) (b : Half × Half) : (c.setColumns b).colmod = c.colmod := rfl
@[simp] theorem Controller.setColumns_sleepOut (c : Controller) (b : Half × Half) : (c.setColumns b).sleepOut = c.sleepOut := rfl
@[simp] theorem Controller.setColumns_normalOn (c : Controller) (b : Half × Half) : (c.setColumns b).normalOn = c.normalOn := rfl
@[simp] theorem Controller.setColumns_invOn (c : Controller) (b : Half × Half) : (c.setColumns b).invOn = c.invOn := rfl
@[simp] theorem Controller.setColumns_dispOn (c : Controller) (b : Half × Half) : (c.setColumns b).dispOn = c.dispOn := rfl
@[simp] theorem Controller.setColumns_settleUntil (c : Controller) (b : Half × Half) : (c.setColumns b).settleUntil = c.settleUntil := rfl
@[simp] theorem Controller.setColumns_fb (c : Controller) (b : Half × Half) : (c.setColumns b).fb = c.fb := rfl

/-! `Controller.setRows` -/
@[simp] theorem Controller.setRows_parser (c : Controller) (b : Half × Half) : (c.setRows b).parser = c.parser := rfl
@[simp] theorem Controller.setRows_xs (c : Controller) (b : Half × Half) : (c.setRows b).xs = c.xs := rfl
@[simp] theorem Controller.setRows_xe (c : Controller) (b : Half × Half) : (c.setRows b).xe = c.xe := rfl
@[simp] theorem Controller.setRows_ys (c : Controller) (b : Half × Half) : (c.setRows b).ys = some b.1 := rfl
@[simp] theorem Controller.setRows_ye (c : Controller) (b : Half × Half) : (c.setRows b).ye = some b.2 := rfl
@[simp] theorem Controller.setRows_cx (c : Controller) (b : Half × Half) : (c.setRows b).cx = c.cx := rfl
@[simp] theorem Controller.setRows_cy (c : Controller) (b : Half × Half) : (c.setRows b).cy = c.cy := rfl
@[simp] theorem Controller.setRows_exhausted (c : Controller) (b : Half × Half) : (c.setRows b).exhausted = c.exhausted := rfl
@[simp] theorem Controller.setRows_pend (c : Controller) (b : Half × Half) : (c.setRows b).pend = c.pend := rfl
@[simp] theorem Controller.setRows_madctl (c : Controller) (b : Half × Half) : (c.setRows b).madctl = c.madctl := rfl
@[simp] theorem Controller.setRows_colmod (c : Controller) (b : Half × Half) : (c.setRows b).colmod = c.colmod := rfl
@[simp] theorem Controller.setRows_sleepOut (c : Controller) (b : Half × Half) : (c.setRows b).sleepOut = c.sleepOut := rfl
@[simp] theorem Controller.setRows_normalOn (c : Controller) (b : Half × Half) : (c.setRows b).normalOn = c.normalOn := rfl
@[simp] theorem Controller.setRows_invOn (c : Controller) (b : Half × Half) : (c.setRows b).invOn = c.invOn := rfl
@[simp] theorem Controller.setRows_dispOn (c : Controller) (b : Half × Half) : (c.setRows b).dispOn = c.dispOn := rfl
@[simp] theorem Controller.setRows_settleUntil (c : Controller) (b : Half × Half) : (c.setRows b).settleUntil = c.settleUntil := rfl
@[simp] theorem Controller.setRows_fb (c : Controller) (b : Half × Half) : (c.setRows b).fb = c.fb := rfl

/-! `Controller.setCursor` -/
@[simp] theorem Controller.setCursor_parser (c : Controller) (x y : Half) : (c.setCursor x y).parser = c.parser := rfl
@[simp] theorem Controller.setCursor_xs (c : Controller) (x y : Half) : (c.setCursor x y).xs = c.xs := rfl
@[simp] theorem Controller.setCursor_xe (c : Controller) (x y : Half) : (c.setCursor x y).xe = c.xe := rfl
@[simp] theorem Controller.setCursor_ys (c : Controller) (x y : Half) : (c.setCursor x y).ys = c.ys := rfl
@[simp] theorem Controller.setCursor_ye (c : Controller) (x y : Half) : (c.setCursor x y).ye = c.ye := rfl
@[simp] theorem Controller.setCursor_cx (c : Controller) (x y : Half) : (c.setCursor x y).cx = some x := rfl
@[simp] theorem Controller.setCursor_cy (c : Controller) (x y : Half) : (c.setCursor x y).cy = some y := rfl
@[simp] theorem Controller.setCursor_exhausted (c : Controller) (x y : Half) : (c.setCursor x y).exhausted = c.exhausted := rfl
@[simp] theorem Controller.setCursor_pend (c : Controller) (x y : Half) : (c.setCursor x y).pend = c.pend := rfl
@[simp] theorem Controller.setCursor_madctl (c : Controller) (x y : Half) : (c.setCursor x y).madctl = c.madctl := rfl
@[simp] theorem Controller.setCursor_colmod (c : Controller) (x y : Half) : (c.setCursor x y).colmod = c.colmod := rfl
@[simp] theorem Controller.setCursor_sleepOut (c : Controller) (x y : Half) : (c.setCursor x y).sleepOut = c.sleepOut := rfl
@[simp] theorem Controller.setCursor_normalOn (c : Controller) (x y : Half) : (c.setCursor x y).normalOn = c.normalOn := rfl
@[simp] theorem Controller.setCursor_invOn (c : Controller) (x y : Half) : (c.setCursor x y).invOn = c.invOn := rfl
@[simp] theorem Controller.setCursor_dispOn (c : Controller) (x y : Half) : (c.setCursor x y).dispOn = c.dispOn := rfl
@[simp] theorem Controller.setCursor_settleUntil (c : Controller) (x y : Half) : (c.setCursor x y).settleUntil = c.settleUntil := rfl
@[simp] theorem Controller.setCursor_fb (c : Controller) (x y : Half) : (c.setCursor x y).fb = c.fb := rfl

/-! `Controller.setExhausted` -/
@[simp] theorem Controller.setExhausted_parser (c : Controller) (e : Bool) : (c.setExhausted e).parser = c.parser := rfl
@[simp] theorem Controller.setExhausted_xs (c : Controller) (e : Bool) : (c.setExhausted e).xs = c.xs := rfl
@[simp] theorem Controller.setExhausted_xe (c : Controller) (e : Bool) : (c.setExhausted e).xe = c.xe := rfl
@[simp] theorem Controller.setExhausted_ys (c : Controller) (e : Bool) : (c.setExhausted e).ys = c.ys := rfl
@[simp] theorem Controller.setExhausted_ye (c : Controller) (e : Bool) : (c.setExhausted e).ye = c.ye := rfl
@[simp] theorem Controller.setExhausted_cx (c : Controller) (e : Bool) : (c.setExhausted e).cx = c.cx := rfl
@[simp] theorem Controller.setExhausted_cy (c : Controller) (e : Bool) : (c.setExhausted e).cy = c.cy := rfl
@[simp] theorem Controller.setExhausted_exhausted (c : Controller) (e : Bool) : (c.setExhausted e).exhausted = e := rfl
@[simp] theorem Controller.setExhausted_pend (c : Controller) (e : Bool) : (c.setExhausted e).pend = c.pend := rfl
@[simp] theorem Controller.setExhausted_madctl (c : Controller) (e : Bool) : (c.setExhausted e).madctl = c.madctl := rfl
@[simp] theorem Controller.setExhausted_colmod (c : Controller) (e : Bool) : (c.setExhausted e).colmod = c.colmod := rfl
@[simp] theorem Controller.setExhausted_sleepOut (c : Controller) (e : Bool) : (c.setExhausted e).sleepOut = c.sleepOut := rfl
@[simp] theorem Controller.setExhausted_normalOn (c : Controller) (e : Bool) : (c.setExhausted e).normalOn = c.normalOn := rfl
@[simp] theorem Controller.setExhausted_invOn (c : Controller) (e : Bool) : (c.setExhausted e).invOn = c.invOn := rfl
@[simp] theorem Controller.setExhausted_dispOn (c : Controller) (e : Bool) : (c.setExhausted e).dispOn = c.dispOn := rfl
@[simp] theorem Controller.setExhausted_settleUntil (c : Controller) (e : Bool) : (c.setExhausted e).settleUntil = c.settleUntil := rfl
@[simp] theorem Controller.setExhausted_fb (c : Controller) (e : Bool) : (c.setExhausted e).fb = c.fb := rfl

/-! `Controller.setPend` -/
@[simp] theorem Controller.setPend_parser (c : Controller) (p : Option Byte) : (c.setPend p).parser = c.parser := rfl
@[simp] theorem Controller.setPend_xs (c : Controller) (p : Option Byte) : (c.setPend p).xs = c.xs := rfl
@[simp] theorem Controller.setPend_xe (c : Controller) (p : Option Byte) : (c.setPend p).xe = c.xe := rfl
@[simp] theorem Controller.setPend_ys (c : Controller) (p : Option Byte) : (c.setPend p).ys = c.ys := rfl
@[simp] theorem Controller.setPend_ye (c : Controller) (p : Option Byte) : (c.setPend p).ye = c.ye := rfl
@[simp] theorem Controller.setPend_cx (c : Controller) (p : Option Byte) : (c.setPend p).cx = c.cx := rfl
@[simp] theorem Controller.setPend_cy (c : Controller) (p : Option Byte) : (c.setPend p).cy = c.cy := rfl
@[simp] theorem Controller.setPend_exhausted (c : Controller) (p : Option Byte) : (c.setPend p).exhausted = c.exhausted := rfl
@[simp] theorem Controller.setPend_pend (c : Controller) (p : Option Byte) : (c.setPend p).pend = p := rfl
@[simp] theorem Controller.setPend_madctl (c : Controller) (p : Option Byte) : (c.setPend p).madctl = c.madctl := rfl
@[simp] theorem Controller.setPend_colmod (c : Controller) (p : Option Byte) : (c.setPend p).colmod = c.colmod := rfl
@[simp] theorem Controller.setPend_sleepOut (c : Controller) (p : Option Byte) : (c.setPend p).sleepOut = c.sleepOut := rfl
@[simp] theorem Controller.setPend_normalOn (c : Controller) (p : Option Byte) : (c.setPend p).normalOn = c.normalOn := rfl
@[simp] theorem Controller.setPend_invOn (c : Controller) (p : Option Byte) : (c.setPend p).invOn = c.invOn := rfl
@[simp] theorem Controller.setPend_dispOn (c : Controller) (p : Option Byte) : (c.setPend p).dispOn = c.dispOn := rfl
@[simp] theorem Controller.setPend_settleUntil (c : Controller) (p : Option Byte) : (c.setPend p).settleUntil = c.settleUntil := rfl
@[simp] theorem Controller.setPend_fb (c : Controller) (p : Option Byte) : (c.setPend p).fb = c.fb := rfl

/-! `Controller.setMadctl` -/
@[simp] theorem Controller.setMadctl_parser (c : Controller) (m : Byte) : (c.setMadctl m).parser = c.parser := rfl
@[simp] theorem Controller.setMadctl_xs (c : Controller) (m : Byte) : (c.setMadctl m).xs = c.xs := rfl
@[simp] theorem Controller.setMadctl_xe (c : Controller) (m : Byte) : (c.setMadctl m).xe = c.xe := rfl
@[simp] theorem Controller.setMadctl_ys (c : Controller) (m : Byte) : (c.setMadctl m).ys = c.ys := rfl
@[simp] theorem Controller.setMadctl_ye (c : Controller) (m : Byte) : (c.setMadctl m).ye = c.ye := rfl
@[simp] theorem Controller.setMadctl_cx (c : Controller) (m : Byte) : (c.setMadctl m).cx = c.cx := rfl
@[simp] theorem Controller.setMadctl_cy (c : Controller) (m : Byte) : (c.setMadctl m).cy = c.cy := rfl
@[simp] theorem Controller.setMadctl_exhausted (c : Controller) (m : Byte) : (c.setMadctl m).exhausted = c.exhausted := rfl
@[simp] theorem Controller.setMadctl_pend (c : Controller) (m : Byte) : (c.setMadctl m).pend = c.pend := rfl
@[simp] theorem Controller.setMadctl_madctl (c : Controller) (m : Byte) : (c.setMadctl m).madctl = some m := rfl
@[simp] theorem Controller.setMadctl_colmod (c : Controller) (m : Byte) : (c.setMadctl m).colmod = c.colmod := rfl
@[simp] theorem Controller.setMadctl_sleepOut (c : Controller) (m : Byte) : (c.setMadctl m).sleepOut = c.sleepOut := rfl
@[simp] theorem Controller.setMadctl_normalOn (c : Controller) (m : Byte) : (c.setMadctl m).normalOn = c.normalOn := rfl
@[simp] theorem Controller.setMadctl_invOn (c : Controller) (m : Byte) : (c.setMadctl m).invOn = c.invOn := rfl
@[simp] theorem Controller.setMadctl_dispOn (c : Controller) (m : Byte) : (c.setMadctl m).dispOn = c.dispOn := rfl
@[simp] theorem Controller.setMadctl_settleUntil (c : Controller) (m : Byte) : (c.setMadctl m).settleUntil = c.settleUntil := rfl
@[simp] theorem Controller.setMadctl_fb (c : Controller) (m : Byte) : (c.setMadctl m).fb = c.fb := rfl

/-! `Controller.setColmod` -/
@[simp] theorem Controller.setColmod_parser (c : Controller) (p : Byte) : (c.setColmod p).parser = c.parser := rfl
@[simp] theorem Controller.setColmod_xs (c : Controller) (p : Byte) : (c.setColmod p).xs = c.xs := rfl
@[simp] theorem Controller.setColmod_xe (c : Controller) (p : Byte) : (c.setColmod p).xe = c.xe := rfl
@[simp] theorem Controller.setColmod_ys (c : Controller) (p : Byte) : (c.setColmod p).ys = c.ys := rfl
@[simp] theorem Controller.setColmod_ye (c : Controller) (p : Byte) : (c.setColmod p).ye = c.ye := rfl
@[simp] theorem Controller.setColmod_cx (c : Controller) (p : Byte) : (c.setColmod p).cx = c.cx := rfl
@[simp] theorem Controller.setColmod_cy (c : Controller) (p : Byte) : (c.setColmod p).cy = c.cy := rfl
@[simp] theorem Controller.setColmod_exhausted (c : Controller) (p : Byte) : (c.setColmod p).exhausted = c.exhausted := rfl
@[simp] theorem Controller.setColmod_pend (c : Controller) (p : Byte) : (c.setColmod p).pend = c.pend := rfl
@[simp] theorem Controller.setColmod_madctl (c : Controller) (p : Byte) : (c.setColmod p).madctl = c.madctl := rfl
@[simp] theorem Controller.setColmod_colmod (c : Controller) (p : Byte) : (c.setColmod p).colmod = some p := rfl
@[simp] theorem Controller.setColmod_sleepOut (c : Controller) (p : Byte) : (c.setColmod p).sleepOut = c.sleepOut := rfl
@[simp] theorem Controller.setColmod_normalOn (c : Controller) (p : Byte) : (c.setColmod p).normalOn = c.normalOn := rfl
@[simp] theorem Controller.setColmod_invOn (c : Controller) (p : Byte) : (c.setColmod p).invOn = c.invOn := rfl
@[simp] theorem Controller.setColmod_dispOn (c : Controller) (p : Byte) : (c.setColmod p).dispOn = c.dispOn := rfl
@[simp] theorem Controller.setColmod_settleUntil (c : Controller) (p : Byte) : (c.setColmod p).settleUntil = c.settleUntil := rfl
@[simp] theorem Controller.setColmod_fb (c : Controller) (p : Byte) : (c.setColmod p).fb = c.fb := rfl

/-! `Controller.setSettle` -/
@[simp] theorem Controller.setSettle_parser (c : Controller) (t : Nat) : (c.setSettle t).parser = c.parser := rfl
@[simp] theorem Controller.setSettle_xs (c : Controller) (t : Nat) : (c.setSettle t).xs = c.xs := rfl
@[simp] theorem Controller.setSettle_xe (c : Controller) (t : Nat) : (c.setSettle t).xe = c.xe := rfl
@[simp] theorem Controller.setSettle_ys (c : Controller) (t : Nat) : (c.setSettle t).ys = c.ys := rfl
@[simp] theorem Controller.setSettle_ye (c : Controller) (t : Nat) : (c.setSettle t).ye = c.ye := rfl
@[simp] theorem Controller.setSettle_cx (c : Controller) (t : Nat) : (c.setSettle t).cx = c.cx := rfl
@[simp] theorem Controller.setSettle_cy (c : Controller) (t : Nat) : (c.setSettle t).cy = c.cy := rfl
@[simp] theorem Controller.setSettle_exhausted (c : Controller) (t : Nat) : (c.setSettle t).exhausted = c.exhausted := rfl
@[simp] theorem Controller.setSettle_pend (c : Controller) (t : Nat) : (c.setSettle t).pend = c.pend := rfl
@[simp] theorem Controller.setSettle_madctl (c : Controller) (t : Nat) : (c.setSettle t).madctl = c.madctl := rfl
@[simp] theorem Controller.setSettle_colmod (c : Controller) (t : Nat) : (c.setSettle t).colmod = c.colmod := rfl
@[simp] theorem Controller.setSettle_sleepOut (c : Controller) (t : Nat) : (c.setSettle t).sleepOut = c.sleepOut := rfl
@[simp] theorem Controller.setSettle_normalOn (c : Controller) (t : Nat) : (c.setSettle t).normalOn = c.normalOn := rfl
@[simp] theorem Controller.setSettle_invOn (c : Controller) (t : Nat) : (c.setSettle t).invOn = c.invOn := rfl
@[simp] theorem Controller.setSettle_dispOn (c : Controller) (t : Nat) : (c.setSettle t).dispOn = c.dispOn := rfl
@[simp] theorem Controller.setSettle_settleUntil (c : Controller) (t : Nat) : (c.setSettle t).settleUntil = t := rfl
@[simp] theorem Controller.setSettle_fb (c : Controller) (t : Nat) : (c.setSettle t).fb = c.fb := rfl

/-! `Controller.setFb` -/
@[simp] theorem Controller.setFb_parser (c : Controller) (m : Memory) : (c.setFb m).parser = c.parser := rfl
@[simp] theorem Controller.setFb_xs (c : Controller) (m : Memory) : (c.setFb m).xs = c.xs := rfl
@[simp] theorem Controller.setFb_xe (c : Controller) (m : Memory) : (c.setFb m).xe = c.xe := rfl
@[simp] theorem Controller.setFb_ys (c : Controller) (m : Memory) : (c.setFb m).ys = c.ys := rfl
@[simp] theorem Controller.setFb_ye (c : Controller) (m : Memory) : (c.setFb m).ye = c.ye := rfl
@[simp] theorem Controller.setFb_cx (c : Controller) (m : Memory) : (c.setFb m).cx = c.cx := rfl
@[simp] theorem Controller.setFb_cy (c : Controller) (m : Memory) : (c.setFb m).cy = c.cy := rfl
@[simp] theorem Controller.setFb_exhausted (c : Controller) (m : Memory) : (c.setFb m).exhausted = c.exhausted := rfl
@[simp] theorem Controller.setFb_pend (c : Controller) (m : Memory) : (c.setFb m).pend = c.pend := rfl
@[simp] theorem Controller.setFb_madctl (c : Controller) (m : Memory) : (c.setFb m).madctl = c.madctl := rfl
@[simp] theorem Controller.setFb_colmod (c : Controller) (m : Memory) : (c.setFb m).colmod = c.colmod := rfl
@[simp] theorem Controller.setFb_sleepOut (c : Controller) (m : Memory) : (c.setFb m).sleepOut = c.sleepOut := rfl
@[simp] theorem Controller.setFb_normalOn (c : Controller) (m : Memory) : (c.setFb m).normalOn = c.normalOn := rfl
@[simp] theorem Controller.setFb_invOn (c : Controller) (m : Memory) : (c.setFb m).invOn = c.invOn := rfl
@[simp] theorem Controller.setFb_dispOn (c : Controller) (m : Memory) : (c.setFb m).dispOn = c.dispOn := rfl
@[simp] theorem Controller.setFb_settleUntil (c : Controller) (m : Memory) : (c.setFb m).settleUntil = c.settleUntil := rfl
@[simp] theorem Controller.setFb_fb (c : Controller) (m : Memory) : (c.setFb m).fb = m := rfl

/-! `Controller.setSleepOut` -/
@[simp] theorem Controller.setSleepOut_parser (c : Controller) : (c.setSleepOut).parser = c.parser := rfl
@[simp] theorem Controller.setSleepOut_xs (c : Controller) : (c.setSleepOut).xs = c.xs := rfl
@[simp] theorem Controller.setSleepOut_xe (c : Controller) : (c.setSleepOut).xe = c.xe := rfl
@[simp] theorem Controller.setSleepOut_ys (c : Controller) : (c.setSleepOut).ys = c.ys := rfl
@[simp] theorem Controller.setSleepOut_ye (c : Controller) : (c.setSleepOut).ye = c.ye := rfl
@[simp] theorem Controller.setSleepOut_cx (c : Controller) : (c.setSleepOut).cx = c.cx := rfl
@[simp] theorem Controller.setSleepOut_cy (c : Controller) : (c.setSleepOut).cy = c.cy := rfl
@[simp] theorem Controller.setSleepOut_exhausted (c : Controller) : (c.setSleepOut).exhausted = c.exhausted := rfl
@[simp] theorem Controller.setSleepOut_pend (c : Controller) : (c.setSleepOut).pend = c.pend := rfl
@[simp] theorem Controller.setSleepOut_madctl (c : Controller) : (c.setSleepOut).madctl = c.madctl := rfl
@[simp] theorem Controller.setSleepOut_colmod (c : Controller) : (c.setSleepOut).colmod = c.colmod := rfl
@[simp] theorem Controller.setSleepOut_sleepOut (c : Controller) : (c.setSleepOut).sleepOut = some true := rfl
@[simp] theorem Controller.setSleepOut_normalOn (c : Controller) : (c.setSleepOut).normalOn = c.normalOn := rfl
@[simp] theorem Controller.setSleepOut_invOn (c : Controller) : (c.setSleepOut).invOn = c.invOn := rfl
@[simp] theorem Controller.setSleepOut_dispOn (c : Controller) : (c.setSleepOut).dispOn = c.dispOn := rfl
@[simp] theorem Controller.setSleepOut_settleUntil (c : Controller) : (c.setSleepOut).settleUntil = c.settleUntil := rfl
@[simp] theorem Controller.setSleepOut_fb (c : Controller) : (c.setSleepOut).fb = c.fb := rfl

/-! `Controller.setNormalOn` -/
@[simp] theorem Controller.setNormalOn_parser (c : Controller) : (c.setNormalOn).parser = c.parser := rfl
@[simp] theorem Controller.setNormalOn_xs (c : Controller) : (c.setNormalOn).xs = c.xs := rfl
@[simp] theorem Controller.setNormalOn_xe (c : Controller) : (c.setNormalOn).xe = c.xe := rfl
@[simp] theorem Controller.setNormalOn_ys (c : Controller) : (c.setNormalOn).ys = c.ys := rfl
@[simp] theorem Controller.setNormalOn_ye (c : Controller) : (c.setNormalOn).ye = c.ye := rfl
@[simp] theorem Controller.setNormalOn_cx (c : Controller) : (c.setNormalOn).cx = c.cx := rfl
@[simp] theorem Controller.setNormalOn_cy (c : Controller) : (c.setNormalOn).cy = c.cy := rfl
@[simp] theorem Controller.setNormalOn_exhausted (c : Controller) : (c.setNormalOn).exhausted = c.exhausted := rfl
@[simp] theorem Controller.setNormalOn_pend (c : Controller) : (c.setNormalOn).pend = c.pend := rfl
@[simp] theorem Controller.setNormalOn_madctl (c : Controller) : (c.setNormalOn).madctl = c.madctl := rfl
@[simp] theorem Controller.setNormalOn_colmod (c : Controller) : (c.setNormalOn).colmod = c.colmod := rfl
@[simp] theorem Controller.setNormalOn_sleepOut (c : Controller) : (c.setNormalOn).sleepOut = c.sleepOut := rfl
@[simp] theorem Controller.setNormalOn_normalOn (c : Controller) : (c.setNormalOn).normalOn = some true := rfl
@[simp] theorem Controller.setNormalOn_invOn (c : Controller) : (c.setNormalOn).invOn = c.invOn := rfl
@[simp] theorem Controller.setNormalOn_dispOn (c : Controller) : (c.setNormalOn).dispOn = c.dispOn := rfl
@[simp] theorem Controller.setNormalOn_settleUntil (c : Controller) : (c.setNormalOn).settleUntil = c.settleUntil := rfl
@[simp] theorem Controller.setNormalOn_fb (c : Controller) : (c.setNormalOn).fb = c.fb := rfl

/-! `Controller.setInvOn` -/
@[simp] theorem Controller.setInvOn_parser (c : Controller) : (c.setInvOn).parser = c.parser := rfl
@[simp] theorem Controller.setInvOn_xs (c : Controller) : (c.setInvOn).xs = c.xs := rfl
@[simp] theorem Controller.setInvOn_xe (c : Controller) : (c.setInvOn).xe = c.xe := rfl
@[simp] theorem Controller.setInvOn_ys (c : Controller) : (c.setInvOn).ys = c.ys := rfl
@[simp] theorem Controller.setInvOn_ye (c : Controller) : (c.setInvOn).ye = c.ye := rfl
@[simp] theorem Controller.setInvOn_cx (c : Controller) : (c.setInvOn).cx = c.cx := rfl
@[simp] theorem Controller.setInvOn_cy (c : Controller) : (c.setInvOn).cy = c.cy := rfl
@[simp] theorem Controller.setInvOn_exhausted (c : Controller) : (c.setInvOn).exhausted = c.exhausted := rfl
@[simp] theorem Controller.setInvOn_pend (c : Controller) : (c.setInvOn).pend = c.pend := rfl
@[simp] theorem Controller.setInvOn_madctl (c : Controller) : (c.setInvOn).madctl = c.madctl := rfl
@[simp] theorem Controller.setInvOn_colmod (c : Controller) : (c.setInvOn).colmod = c.colmod := rfl
@[simp] theorem Controller.setInvOn_sleepOut (c : Controller) : (c.setInvOn).sleepOut = c.sleepOut := rfl
@[simp] theorem Controller.setInvOn_normalOn (c : Controller) : (c.setInvOn).normalOn = c.normalOn := rfl
@[simp] theorem Controller.setInvOn_invOn (c : Controller) : (c.setInvOn).invOn = some true := rfl
@[simp] theorem Controller.setInvOn_dispOn (c : Controller) : (c.setInvOn).dispOn = c.dispOn := rfl
@[simp] theorem Controller.setInvOn_settleUntil (c : Controller) : (c.setInvOn).settleUntil = c.settleUntil := rfl
@[simp] theorem Controller.setInvOn_fb (c : Controller) : (c.setInvOn).fb = c.fb := rfl

/-! `Controller.setDispOn` -/
@[simp] theorem Controller.setDispOn_parser (c : Controller) : (c.setDispOn).parser = c.parser := rfl
@[simp] theorem Controller.setDispOn_xs (c : Controller) : (c.setDispOn).xs = c.xs := rfl
@[simp] theorem Controller.setDispOn_xe (c : Controller) : (c.setDispOn).xe = c.xe := rfl
@[simp] theorem Controller.setDispOn_ys (c : Controller) : (c.setDispOn).ys = c.ys := rfl
@[simp] theorem Controller.setDispOn_ye (c : Controller) : (c.setDispOn).ye = c.ye := rfl
@[simp] theorem Controller.setDispOn_cx (c : Controller) : (c.setDispOn).cx = c.cx := rfl
@[simp] theorem Controller.setDispOn_cy (c : Controller) : (c.setDispOn).cy = c.cy := rfl
@[simp] theorem Controller.setDispOn_exhausted (c : Controller) : (c.setDispOn).exhausted = c.exhausted := rfl
@[simp] theorem Controller.setDispOn_pend (c : Controller) : (c.setDispOn).pend = c.pend := rfl
@[simp] theorem Controller.setDispOn_madctl (c : Controller) : (c.setDispOn).madctl = c.madctl := rfl
@[simp] theorem Controller.setDispOn_colmod (c : Controller) : (c.setDispOn).colmod = c.colmod := rfl
@[simp] theorem Controller.setDispOn_sleepOut (c : Controller) : (c.setDispOn).sleepOut = c.sleepOut := rfl
@[simp] theorem Controller.setDispOn_normalOn (c : Controller) : (c.setDispOn).normalOn = c.normalOn := rfl
@[simp] theorem Controller.setDispOn_invOn (c : Controller) : (c.setDispOn).invOn = c.invOn := rfl
@[simp] theorem Controller.setDispOn_dispOn (c : Controller) : (c.setDispOn).dispOn = some true := rfl
@[simp] theorem Controller.setDispOn_settleUntil (c : Controller) : (c.setDispOn).settleUntil = c.settleUntil := rfl
@[simp] theorem Controller.setDispOn_fb (c : Controller) : (c.setDispOn).fb = c.fb := rfl

/-! `Controller.toReset` -/
@[simp] theorem Controller.toReset_parser (c : Controller) : (c.toReset).parser = .idle := rfl
@[simp] theorem Controller.toReset_xs (c : Controller) : (c.toReset).xs = none := rfl
@[simp] theorem Controller.toReset_xe (c : Controller) : (c.toReset).xe = none := rfl
@[simp] theorem Controller.toReset_ys (c : Controller) : (c.toReset).ys = none := rfl
@[simp] theorem Controller.toReset_ye (c : Controller) : (c.toReset).ye = none := rfl
@[simp] theorem Controller.toReset_cx (c : Controller) : (c.toReset).cx = none := rfl
@[simp] theorem Controller.toReset_cy (c : Controller) : (c.toReset).cy = none := rfl
@[simp] theorem Controller.toReset_exhausted (c : Controller) : (c.toReset).exhausted = false := rfl
@[simp] theorem Controller.toReset_pend (c : Controller) : (c.toReset).pend = none := rfl
@[simp] theorem Controller.toReset_madctl (c : Controller) : (c.toReset).madctl = none := rfl
@[simp] theorem Controller.toReset_colmod (c : Controller) : (c.toReset).colmod = none := rfl
@[simp] theorem Controller.toReset_sleepOut (c : Controller) : (c.toReset).sleepOut = some false := rfl
@[simp] theorem Controller.toReset_normalOn (c : Controller) : (c.toReset).normalOn = none := rfl
@[simp] theorem Controller.toReset_invOn (c : Controller) : (c.toReset).invOn = none := rfl
@[simp] theorem Controller.toReset_dispOn (c : Controller) : (c.toReset).dispOn = none := rfl
@[simp] theorem Controller.toReset_settleUntil (c : Controller) : (c.toReset).settleUntil = c.settleUntil := rfl
@[simp] theorem Controller.toReset_fb (c : Controller) : (c.toReset).fb = [] := rfl

/-! Updates of a part are updates of the whole. -/
@[simp] theorem State.setCtl_self (s : State) : s.setCtl s.ctl = s := rfl
@[simp] theorem State.setHost_self (s : State) : s.setHost s.host = s := rfl
@[simp] theorem State.setCtl_setCtl (s : State) (c d : Controller) : (s.setCtl c).setCtl d = s.setCtl d := rfl
@[simp] theorem State.setHost_setHost (s : State) (h g : HostSide) : (s.setHost h).setHost g = s.setHost g := rfl
@[simp] theorem State.setEnv_setEnv (s : State) (d e : Env) : (s.setEnv d).setEnv e = s.setEnv e := rfl

end Sys2Proof.Machine
end

