-- ==== Sys2Proof/Laws/Ops.lean ====
section
/-! SUPPORT. What word delivery and the frame check can do, each said once; which parts a bus word leaves alone. -/

namespace Sys2Proof.Machine

@[simp] theorem logWord_host (w : BusWord) (s : State) : (logWord w s).host = s.host := rfl
@[simp] theorem logWord_ctl (w : BusWord) (s : State) : (logWord w s).ctl = s.ctl := rfl
@[simp] theorem logWord_cfg (w : BusWord) (s : State) : (logWord w s).cfg = s.cfg := rfl
@[simp] theorem logWord_env (w : BusWord) (s : State) : (logWord w s).env = s.env := rfl
@[simp] theorem logWord_faults (w : BusWord) (s : State) : (logWord w s).faults = s.faults := rfl
@[simp] theorem logWord_trace (w : BusWord) (s : State) : (logWord w s).trace = s.trace ++ [wordEvent w s] := rfl
@[simp] theorem closeStream_host (s : State) : (closeStream s).host = s.host := rfl
@[simp] theorem closeStream_ctl (s : State) : (closeStream s).ctl = s.ctl.setParser .idle := rfl
@[simp] theorem closeStream_cfg (s : State) : (closeStream s).cfg = s.cfg := rfl
@[simp] theorem closeStream_env (s : State) : (closeStream s).env = s.env := rfl
@[simp] theorem closeStream_faults (s : State) : (closeStream s).faults = s.faults := rfl
@[simp] theorem closeStream_trace (s : State) : (closeStream s).trace = s.trace := rfl

/-- An accepted word goes to the parser (R98). -/
theorem deliver_of_accepts {s : State} (h : Accepts s) (w : BusWord) (body : State → Result) :
    deliver w body s = body (logWord w s) := by
  obtain ⟨h1, h2, h3⟩ := h
  simp [deliver, h1, h2, Nat.not_lt.2 h3]

/-- All that delivery can do (R98): the parser's business, or one of the three delivery faults. -/
theorem deliver_cases (w : BusWord) (body : State → Result) (s : State) :
    (Accepts s ∧ deliver w body s = body (logWord w s)) ∨
    (¬Accepts s ∧ ∃ f, deliver w body s = .next ((logWord w s).addFault f)) := by
  by_cases h : Accepts s
  · exact .inl ⟨h, deliver_of_accepts h w body⟩
  · refine .inr ⟨h, ?_⟩
    simp only [deliver, raise]
    split
    · exact ⟨_, rfl⟩
    · split
      · exact ⟨_, rfl⟩
      · split
        · exact ⟨_, rfl⟩
        · exact absurd ⟨by assumption, by assumption, by omega⟩ h

/-- Where no frame is open, a command word goes on to its `Execute` (R99). -/
theorem closeFrame_of_closed {s : State} (h : FrameClosed s) (w : BusWord) (body : State → Result) :
    closeFrame w body s = body (closeStream s) := by
  rcases h with h | ⟨h, hp⟩
  · simp [closeFrame, h]
  · simp [closeFrame, h, hp]

/-- All that the frame check can do (R99). -/
theorem closeFrame_cases (w : BusWord) (body : State → Result) (s : State) :
    (FrameClosed s ∧ closeFrame w body s = body (closeStream s)) ∨
    (¬FrameClosed s ∧ ∃ f, closeFrame w body s = .next (s.addFault f)) := by
  by_cases h : FrameClosed s
  · exact .inl ⟨h, closeFrame_of_closed h w body⟩
  · refine .inr ⟨h, ?_⟩
    simp only [closeFrame, raise]
    split
    · exact ⟨_, rfl⟩
    · exact ⟨_, rfl⟩
    · rename_i hm
      split
      · exact ⟨_, rfl⟩
      · rename_i hp
        exact absurd (.inr ⟨hm, by simpa using hp⟩) h
    · rename_i hi
      exact absurd (.inl hi) h

/-- An accepted command word where no frame is open (R98, R99). -/
theorem commandWord_of_accepts {s : State} (h : Accepts s) (hf : FrameClosed s) (i : Instr) (body : State → Result) :
    commandWord i body s = body (closeStream (logWord (encode i) s)) := by
  rw [commandWord, deliver_of_accepts h]
  exact closeFrame_of_closed (s := logWord (encode i) s) hf _ _

/-- All that a command word can do (R98, R99): its `Execute`, or one fault and nothing else but the trace. -/
theorem commandWord_cases (i : Instr) (body : State → Result) (s : State) :
    (Accepts s ∧ FrameClosed s ∧ commandWord i body s = body (closeStream (logWord (encode i) s))) ∨
    (∃ f, commandWord i body s = .next ((logWord (encode i) s).addFault f)) := by
  unfold commandWord
  rcases deliver_cases (encode i) (closeFrame (encode i) body) s with ⟨ha, h⟩ | ⟨-, h⟩
  · rw [h]
    rcases closeFrame_cases (encode i) body (logWord (encode i) s) with ⟨hf, h'⟩ | ⟨-, h'⟩
    · exact .inl ⟨ha, hf, h'⟩
    · exact .inr h'
  · exact .inr h

/-- The same for a command byte outside the table (R85). -/
theorem execUnknown_cases (b : Byte) (s : State) :
    (Accepts s ∧ FrameClosed s ∧
      execUnknown b s = .next ((closeStream (logWord (busWord false b) s)).addFault (.unknownCommand b))) ∨
    (∃ f, execUnknown b s = .next ((logWord (busWord false b) s).addFault f)) := by
  unfold execUnknown
  rcases deliver_cases (busWord false b) (closeFrame (busWord false b) (raise (.unknownCommand b))) s
    with ⟨ha, h⟩ | ⟨-, h⟩
  · rw [h]
    rcases closeFrame_cases (busWord false b) (raise (.unknownCommand b)) (logWord (busWord false b) s)
      with ⟨hf, h'⟩ | ⟨-, h'⟩
    · exact .inl ⟨ha, hf, h'⟩
    · exact .inr h'
  · exact .inr h

/-! The cursor's advance changes the cursor only. -/
section
variable (xs xe ye cx cy : Half) (c : Controller)
@[simp] theorem advance_parser : (advance xs xe ye cx cy c).parser = c.parser := by unfold advance; split_ifs <;> rfl
@[simp] theorem advance_xs : (advance xs xe ye cx cy c).xs = c.xs := by unfold advance; split_ifs <;> rfl
@[simp] theorem advance_xe : (advance xs xe ye cx cy c).xe = c.xe := by unfold advance; split_ifs <;> rfl
@[simp] theorem advance_ys : (advance xs xe ye cx cy c).ys = c.ys := by unfold advance; split_ifs <;> rfl
@[simp] theorem advance_ye : (advance xs xe ye cx cy c).ye = c.ye := by unfold advance; split_ifs <;> rfl
@[simp] theorem advance_pend : (advance xs xe ye cx cy c).pend = c.pend := by unfold advance; split_ifs <;> rfl
@[simp] theorem advance_madctl : (advance xs xe ye cx cy c).madctl = c.madctl := by unfold advance; split_ifs <;> rfl
@[simp] theorem advance_colmod : (advance xs xe ye cx cy c).colmod = c.colmod := by unfold advance; split_ifs <;> rfl
@[simp] theorem advance_sleepOut : (advance xs xe ye cx cy c).sleepOut = c.sleepOut := by unfold advance; split_ifs <;> rfl
@[simp] theorem advance_normalOn : (advance xs xe ye cx cy c).normalOn = c.normalOn := by unfold advance; split_ifs <;> rfl
@[simp] theorem advance_invOn : (advance xs xe ye cx cy c).invOn = c.invOn := by unfold advance; split_ifs <;> rfl
@[simp] theorem advance_dispOn : (advance xs xe ye cx cy c).dispOn = c.dispOn := by unfold advance; split_ifs <;> rfl
@[simp] theorem advance_settleUntil : (advance xs xe ye cx cy c).settleUntil = c.settleUntil := by
  unfold advance; split_ifs <;> rfl
@[simp] theorem advance_fb : (advance xs xe ye cx cy c).fb = c.fb := by unfold advance; split_ifs <;> rfl
end

/-- All that RAMWR's `Execute` can do (R114). -/
theorem ramwrEffect_cases (s : State) :
    (∃ xs xe ys ye, s.ctl.xs = some xs ∧ s.ctl.xe = some xe ∧ s.ctl.ys = some ys ∧ s.ctl.ye = some ye ∧
      windowLegal s.cfg xs xe ys ye = true ∧ formatSet s = true ∧ s.ctl.sleepOut = some true ∧
      ramwrEffect s = .next (s.setCtl (openWrite xs ys s.ctl))) ∨
    (∃ f, ramwrEffect s = .next (s.addFault f)) := by
  unfold ramwrEffect raise
  split
  · rename_i xs xe ys ye h1 h2 h3 h4
    split
    · exact .inr ⟨_, rfl⟩
    · rename_i hw
      split
      · exact .inr ⟨_, rfl⟩
      · rename_i hfm
        split
        · exact .inr ⟨_, rfl⟩
        · rename_i hs
          refine .inl ⟨xs, xe, ys, ye, h1, h2, h3, h4, by simpa using hw, ?_, by simpa using hs, rfl⟩
          simp only [ne_eq, not_or, not_not] at hfm
          simp [formatSet, hfm.1, hfm.2]
  · exact .inr ⟨_, rfl⟩

/-- All that a data word's parser step can do (R100, R101, R115). -/
theorem dataWord_cases (b : Byte) (s : State) :
    (∃ f, dataWord b s = .next (s.addFault f)) ∨
    (∃ op args, s.ctl.parser = .params op args ∧ (args ++ [b]).length < op.nparams ∧
      dataWord b s = .next (s.setCtl (s.ctl.setParser (.params op (args ++ [b]))))) ∨
    (∃ op args, s.ctl.parser = .params op args ∧ op.nparams ≤ (args ++ [b]).length ∧
      dataWord b s = commitParams op (args ++ [b]) (closeStream s)) ∨
    (s.ctl.parser = .memwrite ∧ s.ctl.exhausted = false ∧ s.ctl.pend = none ∧
      dataWord b s = .next (s.setCtl (s.ctl.setPend (some b)))) ∨
    (∃ h, s.ctl.parser = .memwrite ∧ s.ctl.exhausted = false ∧ s.ctl.pend = some h ∧
      dataWord b s = pixelLow h b s) := by
  unfold dataWord
  split
  · exact .inl ⟨_, rfl⟩
  · exact .inl ⟨_, rfl⟩
  · rename_i op args hp
    by_cases hl : (args ++ [b]).length < op.nparams
    · exact .inr (.inl ⟨op, args, hp, hl, if_pos hl⟩)
    · exact .inr (.inr (.inl ⟨op, args, hp, Nat.not_lt.1 hl, if_neg hl⟩))
  · rename_i hp
    unfold pixelByte
    split
    · exact .inl ⟨_, rfl⟩
    · rename_i he
      simp only [Bool.not_eq_true] at he
      cases hq : s.ctl.pend with
      | none => exact .inr (.inr (.inr (.inl ⟨hp, he, rfl, rfl⟩)))
      | some h => exact .inr (.inr (.inr (.inr ⟨h, hp, he, rfl, rfl⟩)))

/-- All that a commit can do (R101): one register or register pair, or the stop no run reaches. -/
theorem commitParams_cases (op : ParamCmd) (args : List Byte) (s : State) :
    (op = .caset ∧ ∃ b, commitParams op args s = .next (s.setCtl (s.ctl.setColumns b))) ∨
    (op = .raset ∧ ∃ b, commitParams op args s = .next (s.setCtl (s.ctl.setRows b))) ∨
    (op = .madctl ∧ ∃ m, commitParams op args s = .next (s.setCtl (s.ctl.setMadctl m))) ∨
    (op = .colmod ∧ ∃ p, commitParams op args s = .next (s.setCtl (s.ctl.setColmod p))) ∨
    (args.length ≠ op.nparams ∧ commitParams op args s = .fault (.parserOverfull op args.length)) := by
  unfold commitParams
  split
  · exact .inl ⟨rfl, _, rfl⟩
  · exact .inr (.inl ⟨rfl, _, rfl⟩)
  · exact .inr (.inr (.inl ⟨rfl, _, rfl⟩))
  · exact .inr (.inr (.inr (.inl ⟨rfl, _, rfl⟩)))
  · rename_i h1 h2 h3 h4
    refine .inr (.inr (.inr (.inr ⟨fun hl => ?_, rfl⟩)))
    cases op
    · match args, hl with
      | [p1, p2, p3, p4], _ => exact h1 p1 p2 p3 p4 rfl rfl
    · match args, hl with
      | [p1, p2, p3, p4], _ => exact h2 p1 p2 p3 p4 rfl rfl
    · match args, hl with
      | [m], _ => exact h3 m rfl rfl
    · match args, hl with
      | [p], _ => exact h4 p rfl rfl

/-- All that the low byte of a pixel can do (R115, R116): the cell and the cursor, or a stop no run reaches. -/
theorem pixelLow_cases (h l : Byte) (s : State) :
    (∃ cx cy xs xe ye, s.ctl.cx = some cx ∧ s.ctl.cy = some cy ∧ s.ctl.xs = some xs ∧ s.ctl.xe = some xe ∧
      s.ctl.ye = some ye ∧ cx.toNat < s.cfg.w ∧ cy.toNat < s.cfg.h ∧
      pixelLow h l s = .next (s.setCtl (advance xs xe ye cx cy
        ((s.ctl.setPend none).setFb (fbWrite s.cfg s.ctl.fb cx.toNat cy.toNat (join16 h l)))))) ∨
    (∃ cx cy, s.ctl.cx = some cx ∧ s.ctl.cy = some cy ∧ ¬(cx.toNat < s.cfg.w ∧ cy.toNat < s.cfg.h) ∧
      pixelLow h l s = .fault (.noSuchCell cx.toNat cy.toNat)) ∨
    ((s.ctl.cx = none ∨ s.ctl.cy = none ∨ s.ctl.xs = none ∨ s.ctl.xe = none ∨ s.ctl.ye = none) ∧
      pixelLow h l s = .fault .cursorLost) := by
  unfold pixelLow
  split
  · rename_i cx cy xs xe ye h1 h2 h3 h4 h5
    by_cases hd : cx.toNat < s.cfg.w ∧ cy.toNat < s.cfg.h
    · exact .inl ⟨cx, cy, xs, xe, ye, h1, h2, h3, h4, h5, hd.1, hd.2, if_pos hd⟩
    · exact .inr (.inl ⟨cx, cy, h1, h2, hd, if_neg hd⟩)
  · rename_i hn
    refine .inr (.inr ⟨?_, rfl⟩)
    cases h1 : s.ctl.cx <;> cases h2 : s.ctl.cy <;> cases h3 : s.ctl.xs <;> cases h4 : s.ctl.xe <;>
      cases h5 : s.ctl.ye <;> simp
    exact hn _ _ _ _ _ h1 h2 h3 h4 h5

end Sys2Proof.Machine
end

