-- ==== Sys2Proof/Laws/HostOps.lean ====
section
/-! SUPPORT. What the shared host-side operations change, and what one step of the machine can do, each said once. -/

namespace Sys2Proof.Machine

@[simp] theorem tick_ctl (d : Nat) (s : State) : (tick d s).ctl = s.ctl := rfl
@[simp] theorem tick_now (d : Nat) (s : State) : (tick d s).host.now = s.host.now + d := rfl
@[simp] theorem tick_faults (d : Nat) (s : State) : (tick d s).faults = s.faults := rfl
@[simp] theorem tick_trace (d : Nat) (s : State) : (tick d s).trace = s.trace := rfl
@[simp] theorem tick_cfg (d : Nat) (s : State) : (tick d s).cfg = s.cfg := rfl
@[simp] theorem tick_env (d : Nat) (s : State) : (tick d s).env = s.env := rfl
@[simp] theorem beginTransfer_ctl (dc : Level) (bs : List Byte) (s : State) : (beginTransfer dc bs s).ctl = s.ctl := rfl
@[simp] theorem beginTransfer_faults (dc : Level) (bs : List Byte) (s : State) :
    (beginTransfer dc bs s).faults = s.faults := rfl
@[simp] theorem beginTransfer_trace (dc : Level) (bs : List Byte) (s : State) :
    (beginTransfer dc bs s).trace = s.trace := rfl
@[simp] theorem beginTransfer_cfg (dc : Level) (bs : List Byte) (s : State) : (beginTransfer dc bs s).cfg = s.cfg := rfl
@[simp] theorem pushTasks_ctl (ts : List Task) (s : State) : (pushTasks ts s).ctl = s.ctl := rfl
@[simp] theorem pushTasks_tasks (ts : List Task) (s : State) : (pushTasks ts s).host.tasks = ts ++ s.host.tasks := rfl
@[simp] theorem pushTasks_faults (ts : List Task) (s : State) : (pushTasks ts s).faults = s.faults := rfl
@[simp] theorem pushTasks_trace (ts : List Task) (s : State) : (pushTasks ts s).trace = s.trace := rfl
@[simp] theorem pushTasks_cfg (ts : List Task) (s : State) : (pushTasks ts s).cfg = s.cfg := rfl
@[simp] theorem pwmCommit_ctl (d : Nat) (s : State) : (pwmCommit d s).ctl = s.ctl := rfl
@[simp] theorem pwmCommit_faults (d : Nat) (s : State) : (pwmCommit d s).faults = s.faults := rfl
@[simp] theorem pwmCommit_cfg (d : Nat) (s : State) : (pwmCommit d s).cfg = s.cfg := rfl
@[simp] theorem takeWord_ctl (x : Xfer) (s : State) : (takeWord x s).ctl = s.ctl := rfl
@[simp] theorem takeWord_faults (x : Xfer) (s : State) : (takeWord x s).faults = s.faults := rfl
@[simp] theorem takeWord_trace (x : Xfer) (s : State) : (takeWord x s).trace = s.trace := rfl
@[simp] theorem takeWord_cfg (x : Xfer) (s : State) : (takeWord x s).cfg = s.cfg := rfl

/-- Counting a concurrent call down changes the inputs only. -/
theorem countOverlap_eq (s : State) : ∃ e, countOverlap s = s.setEnv e := by
  unfold countOverlap
  split
  · exact ⟨_, rfl⟩
  · exact ⟨s.env, rfl⟩

@[simp] theorem countOverlap_host (s : State) : (countOverlap s).host = s.host := by
  obtain ⟨e, h⟩ := countOverlap_eq s
  rw [h]; rfl

/-- The events of a return change the trace only. -/
theorem signalReturn_cases (op : HostOp) (e : Option BusError) (s : State) :
    signalReturn op e s = s ∨ signalReturn op e s = s.addEvent (.flushDone s.host.now (finalStatus op e)) := by
  unfold signalReturn
  split
  · exact .inr rfl
  · exact .inl rfl

@[simp] theorem signalReturn_host (op : HostOp) (e : Option BusError) (s : State) :
    (signalReturn op e s).host = s.host := by
  rcases signalReturn_cases op e s with h | h <;> simp [h]

@[simp] theorem signalReturn_ctl (op : HostOp) (e : Option BusError) (s : State) :
    (signalReturn op e s).ctl = s.ctl := by
  rcases signalReturn_cases op e s with h | h <;> simp [h]

@[simp] theorem signalReturn_cfg (op : HostOp) (e : Option BusError) (s : State) :
    (signalReturn op e s).cfg = s.cfg := by
  rcases signalReturn_cases op e s with h | h <;> simp [h]

@[simp] theorem signalReturn_faults (op : HostOp) (e : Option BusError) (s : State) :
    (signalReturn op e s).faults = s.faults := by
  rcases signalReturn_cases op e s with h | h <;> simp [h]

@[simp] theorem finishOp_ctl (op : HostOp) (e : Option BusError) (s : State) : (finishOp op e s).ctl = s.ctl := by
  simp [finishOp]

@[simp] theorem finishOp_cfg (op : HostOp) (e : Option BusError) (s : State) : (finishOp op e s).cfg = s.cfg := by
  simp [finishOp]

@[simp] theorem finishOp_faults (op : HostOp) (e : Option BusError) (s : State) :
    (finishOp op e s).faults = s.faults := by
  simp [finishOp]

/-- All that `DriveReset` can do (R125). -/
theorem driveReset_cases (l : Level) (s : State) :
    (l = false ∧ ∃ since, driveReset l s = .next (((s.addEvent (.resetEdge s.host.now l)).setHost
        (s.host.setRst false since)).setCtl s.ctl.toReset) ∧
      ((s.host.rstN = some false ∧ since = s.host.rstLowSince) ∨
        (s.host.rstN ≠ some false ∧ since = some s.host.now))) ∨
    (l = true ∧ s.host.rstN = some false ∧ s.host.rstLowSince = none ∧ driveReset l s = .fault .resetTimeLost) ∨
    (l = true ∧ ∃ since, s.host.rstN = some false ∧ s.host.rstLowSince = some since ∧
      s.host.now - since < s.cfg.tRstLow ∧
      driveReset l s = .next ((s.addEvent (.resetEdge s.host.now l)).addFault (.resetPulseShort (s.host.now - since)))) ∨
    (l = true ∧ ∃ since, s.host.rstN = some false ∧ s.host.rstLowSince = some since ∧
      s.cfg.tRstLow ≤ s.host.now - since ∧
      driveReset l s = .next (((s.addEvent (.resetEdge s.host.now l)).setHost (s.host.setRst true none)).setCtl
        (s.ctl.toReset.setSettle (s.host.now + s.cfg.tRstSettle)))) ∨
    (l = true ∧ s.host.rstN ≠ some false ∧
      driveReset l s = .next ((s.addEvent (.resetEdge s.host.now l)).setHost
        (s.host.setRst true s.host.rstLowSince))) := by
  unfold driveReset
  cases l <;> rcases h : s.host.rstN with _ | (_ | _) <;> rcases h' : s.host.rstLowSince with _ | t
  case true.some.false.some =>
    by_cases hs : s.host.now - t < s.cfg.tRstLow
    · exact .inr (.inr (.inl ⟨rfl, t, rfl, rfl, hs, by simp [hs, raise]⟩))
    · exact .inr (.inr (.inr (.inl ⟨rfl, t, rfl, rfl, by omega, by simp [hs]⟩)))
  all_goals simp

/-- All that an operation step does that sends no word and drives no line: the transport calls. -/
theorem sendDataBlock_cases (bytes : List Byte) (n : Nat) (s : State) :
    (bytes.length < n ∧ sendDataBlock bytes n s = .next (s.addFault (.busLength n bytes.length))) ∨
    (n = 0 ∧ sendDataBlock bytes n s = .next s) ∨
    (n ≠ 0 ∧ n ≤ bytes.length ∧ sendDataBlock bytes n s = .next (beginTransfer true (bytes.take n) s)) := by
  unfold sendDataBlock raise
  by_cases h : bytes.length < n
  · exact .inl ⟨h, if_pos h⟩
  · by_cases h0 : n = 0
    · exact .inr (.inl ⟨h0, by rw [if_neg h, if_pos h0]⟩)
    · exact .inr (.inr ⟨h0, by omega, by rw [if_neg h, if_neg h0]⟩)

/-- Starting an operation (R93, R147): a fault before or after it counts as in progress, its steps, or the stop no
run reaches. -/
theorem startOp_cases (op : HostOp) (s : State) :
    (∃ f, startOp op s = .next (s.addFault f)) ∨
    (op ≠ .bringUp ∧ ∃ f, startOp op s = .next ((s.setHost (s.host.setOp (some op))).addFault f)) ∨
    (op ≠ .bringUp ∧ ∃ ts, plan s.cfg op = .ok ts ∧
      startOp op s = .next (s.setHost ((s.host.setOp (some op)).setTasks ts))) ∨
    (op = .bringUp ∧ (∀ k, s.host.fsm ≠ .bringup k) ∧
      startOp op s = .next (s.setHost (((s.host.setFsm (.bringup 1)).setOp (some op)).setTasks (bringUpTasks s.cfg)))) ∨
    (op = .bringUp ∧ ∃ k, s.host.fsm = .bringup k ∧ startOp op s = .fault (.bringUpNested k)) := by
  unfold startOp
  split
  · exact .inl ⟨_, rfl⟩
  · split
    · rename_i hop
      subst hop
      split
      · rename_i k hk
        exact .inr (.inr (.inr (.inr ⟨rfl, k, hk, rfl⟩)))
      · rename_i hk
        exact .inr (.inr (.inr (.inl ⟨rfl, hk, rfl⟩)))
    · rename_i hop
      unfold beginPlan
      split
      · exact .inr (.inl ⟨hop, _, rfl⟩)
      · rename_i ts hts
        exact .inr (.inr (.inl ⟨hop, ts, hts, rfl⟩))

/-- After a host step only the inputs change (R183). -/
theorem afterHostStep_cases {r : Result} {t : State} (h : afterHostStep r = .next t) :
    ∃ u, r = .next u ∧ ∃ e, t = u.setEnv e := by
  cases r with
  | next u =>
    refine ⟨u, rfl, ?_⟩
    simp only [afterHostStep, Host.Outcome.next.injEq] at h
    split at h
    · exact ⟨_, h.symm⟩
    · exact ⟨u.env, h.symm⟩
  | fault f => simp [afterHostStep] at h
  | refused f => simp [afterHostStep] at h

/-- All that one step can do (R15): it runs only without a fault, and then time passes, a concurrent call faults, the
operation in progress goes on, or the caller's next call starts. -/
theorem step_cases {s t : State} (h : step s = .next t) :
    s.faults = [] ∧
    ((∃ d e, t = tick d (s.setEnv e)) ∨
     (∃ op op', s.host.op = some op ∧ t = s.addFault (.concurrentAccess op op')) ∨
     (∃ op e u e', s.host.op = some op ∧ isHeld s = false ∧ opStep op (s.setEnv e) = .next u ∧ t = u.setEnv e') ∨
     (∃ op e u e', s.host.op = none ∧ startOp op (s.setEnv e) = .next u ∧ t = u.setEnv e')) := by
  unfold step sessionStep at h
  split at h
  · simp at h
  · rename_i hf
    refine ⟨hf, ?_⟩
    split at h
    · unfold hostTurn at h
      split at h
      · rename_i op hop
        unfold busyTurn at h
        split at h
        · simp only [raise, Host.Outcome.next.injEq] at h
          exact .inr (.inl ⟨op, _, hop, h.symm⟩)
        · obtain ⟨e, he⟩ := countOverlap_eq s
          split at h
          · simp only [Host.Outcome.next.injEq] at h
            rw [he] at h
            exact .inl ⟨_, _, h.symm⟩
          · rename_i hh
            rw [he] at h
            obtain ⟨u, hu, e', ht⟩ := afterHostStep_cases h
            exact .inr (.inr (.inl ⟨op, e, u, e', hop, by simpa using hh, hu, ht⟩))
      · rename_i hop
        unfold idleTurn at h
        split at h
        · obtain ⟨u, hu, e', ht⟩ := afterHostStep_cases h
          exact .inr (.inr (.inr ⟨_, _, u, e', hop, hu, ht⟩))
        · simp only [Host.Outcome.next.injEq] at h
          exact .inl ⟨_, _, h.symm⟩
    · simp only [Host.Outcome.next.injEq] at h
      exact .inl ⟨_, _, h.symm⟩

/-- The induction over one step, once: what the parts of a step keep, a step keeps. -/
theorem step_keeps {P : State → Prop} (env : ∀ s e, P s → P (s.setEnv e)) (time : ∀ s d, P s → P (tick d s))
    (fault : ∀ s f, P s → P (s.addFault f))
    (busy : ∀ s op t, s.host.op = some op → isHeld s = false → P s → opStep op s = .next t → P t)
    (start : ∀ s op t, s.host.op = none → P s → startOp op s = .next t → P t)
    {s t : State} (hs : P s) (h : step s = .next t) : P t := by
  obtain ⟨-, ⟨d, e, rfl⟩ | ⟨op, op', -, rfl⟩ | ⟨op, e, u, e', hop, hh, hu, rfl⟩ | ⟨op, e, u, e', hop, hu, rfl⟩⟩ :=
    step_cases h
  · exact time _ _ (env _ _ hs)
  · exact fault _ _ hs
  · exact env _ _ (busy (s.setEnv e) op u hop hh (env _ _ hs) hu)
  · exact env _ _ (start (s.setEnv e) op u hop (env _ _ hs) hu)

end Sys2Proof.Machine
end

