-- ==== Sys2Proof/Laws/PerInstr.lean ====
section
/-! SUPPORT. The family `WordRoundTrip`: every instruction is what the decoder reads from its own word. -/

namespace Sys2Proof.Laws.WordRoundTrip

/-- The decoder reads the instruction back from the word the encoder gives it (R84). -/
def Statement (i : Instr) : Prop := decode (encode i) = .known i

theorem swreset : Statement .swreset := by unfold Statement; decide
theorem slpout : Statement .slpout := by unfold Statement; decide
theorem noron : Statement .noron := by unfold Statement; decide
theorem invon : Statement .invon := by unfold Statement; decide
theorem caset : Statement .caset := by unfold Statement; decide
theorem raset : Statement .raset := by unfold Statement; decide
theorem ramwr : Statement .ramwr := by unfold Statement; decide
theorem dispon : Statement .dispon := by unfold Statement; decide
theorem madctl : Statement .madctl := by unfold Statement; decide
theorem colmod : Statement .colmod := by unfold Statement; decide
theorem data (b : Byte) : Statement (.data b) := decode_encode_data b

end Sys2Proof.Laws.WordRoundTrip
end

