-- ==== Sys2Proof/Tests/Slice0.lean ====
section
/-! SUPPORT. Tests, with expected values from spec/95_test_vectors.md and the encoding tables; and a witness for the hypotheses of each statement that has some. -/

namespace Sys2Proof.Tests

open Sys2Proof Sys2Proof.Machine

/-! ## Helpers -/

/-- The default parameters (R8, R9), with a value for each OPEN one. -/
def cfg : Config where
  tBusTimeout := 50
  wireBitOrder := .msbFirst
  pwmPeriodCounts := 256
  pwmFreqHz := 1000
  blActiveHigh := true

/-- `S0`: power-on, with these parameters. -/
def s0 : State := { State.reset with cfg := cfg }

/-- `S_RDY`: the end state of vector BU-1, without its trace. -/
def ready : State := { s0 with
  host := { s0.host with dc := some false, rstN := some true, fsm := .ready, now := 610, blCfg := true, blDuty := some 255 }
  ctl := { s0.ctl with parser := .idle, colmod := some 0x55, madctl := some 0x00, sleepOut := some true,
                       normalOn := some true, invOn := some true, dispOn := some true, settleUntil := 610 } }

/-- A state with this parser. -/
def withParser (p : Parser) (s : State) : State := { s with ctl := { s.ctl with parser := p } }

/-- A state with these window registers. -/
def withWindow (xs xe ys ye : Half) (s : State) : State :=
  { s with ctl := { s.ctl with xs := some xs, xe := some xe, ys := some ys, ye := some ye } }

/-- An open memory write on columns 3 to 5 of row 7 (vector AD-11), with this pending byte. -/
def writing (p : Option Byte) : State :=
  { withWindow 3 5 7 7 (withParser .memwrite ready) with
    ctl := { (withWindow 3 5 7 7 (withParser .memwrite ready)).ctl with cx := some 3, cy := some 7, pend := p } }

/-- The last cell of that window is the next. -/
def atLast (p : Option Byte) : State := { writing p with ctl := { (writing p).ctl with cx := some 5 } }

/-- That window is full. -/
def full : State := { writing none with ctl := { (writing none).ctl with exhausted := true } }

/-- The same state at another time. -/
def atTime (t : Nat) (s : State) : State := { s with host := { s.host with now := t } }

/-- The same state with the reset line low since time 0. -/
def inReset (s : State) : State := { s with host := { s.host with rstN := some false, rstLowSince := some 0 } }

/-- A memory write just opened on the two rightmost columns of the first two rows (vector AD-14). -/
def cornerWrite : State := { withWindow 238 239 0 1 (withParser .memwrite ready) with
  ctl := { (withWindow 238 239 0 1 (withParser .memwrite ready)).ctl with cx := some 238, cy := some 0 } }

/-- The same state with an operation in progress. -/
def busy (op : HostOp) (ts : List Task) (x : Option Xfer) (s : State) : State :=
  { s with host := { s.host with op := some op, tasks := ts, xfer := x } }

/-- The same state with a call pending. -/
def calling (c : Call) (s : State) : State := { s with env := { s.env with calls := [c], ticks := [0, 0, 0, 0] } }

/-- Whether an outcome is a next state of which `p` holds. -/
def nextHas (r : Result) (p : State → Bool) : Bool :=
  match r with
  | .next t => p t
  | _ => false

/-- Whether an outcome is a next state that holds just this fault. -/
def raises (r : Result) (f : Raised) : Bool := nextHas r (fun t => t.faults == [f])

/-! ## Well-formedness: an ill-formed term for each check -/

theorem test_wf_default : cfg.wf = true := by decide
theorem test_wf_width_zero : ({ cfg with w := 0 } : Config).wf = false := by decide
theorem test_wf_width_large : ({ cfg with w := 65537 } : Config).wf = false := by decide
theorem test_wf_height_zero : ({ cfg with h := 0 } : Config).wf = false := by decide
theorem test_wf_height_large : ({ cfg with h := 65537 } : Config).wf = false := by decide
theorem test_wf_largest_display : ({ cfg with w := 65536, h := 65536 } : Config).wf = true := by decide
theorem test_wf_chunk_zero : ({ cfg with chunkBytes := 0 } : Config).wf = false := by decide
theorem test_wf_chunk_odd : ({ cfg with chunkBytes := 4095 } : Config).wf = false := by decide
theorem test_wf_duty_zero : ({ cfg with dutyMax := 0 } : Config).wf = false := by decide
theorem test_wf_timeout_zero : ({ cfg with tBusTimeout := 0 } : Config).wf = false := by decide
theorem test_wf_period_short : ({ cfg with pwmPeriodCounts := 254 } : Config).wf = false := by decide
theorem test_wf_freq_zero : ({ cfg with pwmFreqHz := 0 } : Config).wf = false := by decide
theorem test_wf_caset_frame : ({ cmd := .caset, payload := [0, 5, 0, 5] } : Frame).wf = true := by decide
theorem test_wf_caset_short : ({ cmd := .caset, payload := [0, 5, 0] } : Frame).wf = false := by decide
theorem test_wf_madctl_long : ({ cmd := .madctl, payload := [0, 0] } : Frame).wf = false := by decide
theorem test_wf_noron_payload : ({ cmd := .noron, payload := [0] } : Frame).wf = false := by decide
theorem test_wf_half_pixel : ({ cmd := .ramwr, payload := [0xF8] } : Frame).wf = false := by decide
theorem test_wf_data_first : ({ cmd := .data 0x55, payload := [] } : Frame).wf = false := by decide

/-! ## Decoding: words written out from R73 and the opcode bytes of EX-9 -/

theorem test_decode_swreset : decode 0b000000001#9 = .known .swreset := by decide
theorem test_decode_slpout : decode 0b000010001#9 = .known .slpout := by decide
theorem test_decode_noron : decode 0b000010011#9 = .known .noron := by decide
theorem test_decode_invon : decode 0b000100001#9 = .known .invon := by decide
theorem test_decode_dispon : decode 0b000101001#9 = .known .dispon := by decide
theorem test_decode_caset : decode 0b000101010#9 = .known .caset := by decide
theorem test_decode_raset : decode 0b000101011#9 = .known .raset := by decide
theorem test_decode_ramwr : decode 0b000101100#9 = .known .ramwr := by decide
theorem test_decode_madctl : decode 0b000110110#9 = .known .madctl := by decide
theorem test_decode_colmod : decode 0b000111010#9 = .known .colmod := by decide
theorem test_decode_data : decode 0b101010101#9 = .known (.data 0x55) := by decide
theorem test_decode_data_like_command : decode 0b100101010#9 = .known (.data 0x2A) := by decide
theorem test_decode_unknown_zero : decode 0b000000000#9 = .unknown 0x00 := by decide
theorem test_decode_unknown_last : decode 0b011111111#9 = .unknown 0xFF := by decide
theorem test_table_word_data : decodeTableWord 16 0x13F = some (.data 0x3F) := by decide
theorem test_table_word_past_bus : decodeTableWord 16 0x200 = none := by decide
/-- EX-9: the pixel-format example is the word pair 0x03A 0x155. -/
theorem test_frame_colmod : decodeFrame [0x03A, 0x155, 0x02C] = .ok ({ cmd := .colmod, payload := [0x55] }, [0x02C]) := by
  rfl
theorem test_frame_short : decodeFrame [0x02A, 0x100, 0x10A, 0x02B] = .error (.incomplete .caset 2) := by rfl

/-! ## Commands (vectors TR, PA, AD, BU) -/

/-- PA-1 and PA-2. -/
theorem test_word_not_accepted : raises (exec .swreset s0) (.notReset false 0x01) = true ∧
    raises (exec .swreset (inReset (atTime 50 s0))) (.busDuringReset false 0x01) = true := by decide
/-- AD-7: SWRESET at 610 gates until 760 and puts the controller to sleep. -/
theorem test_swreset : nextHas (exec .swreset ready)
    (fun t => t.ctl.settleUntil == 760 && t.ctl.sleepOut == some false && t.ctl.colmod == none) = true := by decide
/-- BU-7: SLPOUT at 610, then NORON at 700. -/
theorem test_slpout_gate : nextHas (exec .slpout ready)
    (fun t => raises (exec .noron (atTime 700 t)) (.settleViolation false 0x13 700 730)) = true := by decide
/-- BU-1: NORON's gate is 10 ms. -/
theorem test_noron_gate : nextHas (exec .noron (atTime 610 ready)) (fun t => t.ctl.settleUntil == 620) = true := by decide
/-- BU-1: INVON's gate is 10 ms. -/
theorem test_invon : nextHas (exec .invon { ready with ctl := { ready.ctl with invOn := none } })
    (fun t => t.ctl.invOn == some true && t.ctl.settleUntil == 620) = true := by decide
/-- TR-1: DISPON at 610. -/
theorem test_dispon : nextHas (exec .dispon ready)
    (fun t => t.ctl.dispOn == some true && t.ctl.settleUntil == 730 && t.trace == [.word 610 false 0x29 0]) = true := by
  decide
/-- PA-11. -/
theorem test_caset : nextHas (deliverWords [0x02A, 0x100, 0x100, 0x100, 0x1EF] ready)
    (fun t => t.ctl.xs == some 0 && t.ctl.xe == some 239 && t.ctl.parser == .idle) = true := by decide
/-- PA-8. -/
theorem test_caset_cut_off : nextHas (deliverWords [0x02A, 0x100, 0x10A, 0x02B] ready)
    (fun t => t.faults == [.incompleteParams .caset 2] && t.ctl.xs == none) = true := by decide
/-- EX-11: rows 256 to 319. -/
theorem test_raset : nextHas (deliverWords [0x02B, 0x101, 0x100, 0x101, 0x13F] ready)
    (fun t => t.ctl.ys == some 256 && t.ctl.ye == some 319 && t.ctl.xs == none) = true := by decide
/-- PA-9. -/
theorem test_madctl_cut_off : nextHas (deliverWords [0x036, 0x02C] ready)
    (fun t => t.faults == [.incompleteParams .madctl 0]) = true := by decide
/-- AD-5. -/
theorem test_madctl_stored : nextHas (deliverWords [0x036, 0x140] ready)
    (fun t => t.ctl.madctl == some 0x40 && raises (exec .ramwr (withWindow 0 0 0 0 t)) (.formatUnsupported (some 0x55) (some 0x40)))
    = true := by decide
/-- AD-6. -/
theorem test_colmod_stored : nextHas (deliverWords [0x03A, 0x166] ready)
    (fun t => raises (exec .ramwr (withWindow 0 0 0 0 t)) (.formatUnsupported (some 0x66) (some 0x00))) = true := by decide
/-- AD-1. -/
theorem test_ramwr_no_window : raises (exec .ramwr ready) (.windowInvalid none none none none) = true := by decide
/-- AD-10: RAMWR opens the window again at its first cell. -/
theorem test_ramwr_reopens : nextHas (exec .ramwr full)
    (fun t => t.ctl.parser == .memwrite && t.ctl.cx == some 3 && t.ctl.cy == some 7 && t.ctl.exhausted == false) = true := by
  decide
/-- PA-4. -/
theorem test_unknown_command : raises (deliverWord 0x000 ready) (.unknownCommand 0x00) = true := by decide
/-- PA-13. -/
theorem test_frame_check_first : raises (deliverWord 0x0FF (withParser (.params .caset [0x00]) ready))
    (.incompleteParams .caset 1) = true := by decide
/-- AD-12. -/
theorem test_half_pixel : raises (exec .dispon (writing (some 0xF8))) (.partialPixel (some 3) (some 7)) = true := by decide
/-- PA-6, and AD-9 on the window of AD-11. -/
theorem test_data_faults : raises (exec (.data 0x55) ready) (.unexpectedData 0x55) = true ∧
    raises (exec (.data 0x55) full) (.windowOverrun 0x55) = true := by decide
/-- AD-13 and AD-14: the low byte writes the cell; the cursor goes from `x2+1` to `x1`. -/
theorem test_pixels : nextHas (exec (.data 0x00) (writing (some 0xF8)))
      (fun t => fbRead cfg t.ctl.fb 3 7 == some 0xF800 && t.ctl.cx == some 4 && t.ctl.pend == none) = true ∧
    nextHas (deliverBytes [0x01, 0x02, 0x03, 0x04, 0x05, 0x06] cornerWrite)
      (fun t => fbRead cfg t.ctl.fb 239 0 == some 0x0304 && fbRead cfg t.ctl.fb 238 1 == some 0x0506 &&
        t.ctl.cx == some 239 && t.ctl.cy == some 1) = true := by decide

/-! ## The host side -/

/-- BU-4. -/
theorem test_short_pulse :
    raises (driveReset true (inReset (atTime 60 s0))) (.resetPulseShort 60) = true := by decide
/-- BU-8. -/
theorem test_pulse_from_first_edge : nextHas (driveReset false s0) (fun t => nextHas (driveReset false (atTime 50 t))
    (fun u => nextHas (driveReset true (atTime 100 u)) (fun v => v.ctl.settleUntil == 200 && v.ctl.parser == .idle)))
    = true := by decide
/-- BU-1 and BU-2: the words of bring-up, with and without INVON. -/
theorem test_bring_up_words : taskWords (bringUpTasks cfg) = [0x001, 0x011, 0x03A, 0x155, 0x036, 0x100, 0x021, 0x013, 0x029] ∧
    taskWords (bringUpTasks { cfg with invertOn := false }) = [0x001, 0x011, 0x03A, 0x155, 0x036, 0x100, 0x013, 0x029] := by
  decide
/-- EX-11. -/
theorem test_set_window_words : taskWords (windowTasks (coord 10) (coord 20) (coord 12) (coord 21)) =
    [0x02A, 0x100, 0x10A, 0x100, 0x10C, 0x02B, 0x100, 0x114, 0x100, 0x115, 0x02C] := by decide
/-- AD-19: the right bound clips below the left one. -/
theorem test_set_window_args : raises (windowTask 250 0 260 0 ready) (.setWindowArgs 250 0 260 0) = true := by decide
/-- AD-16. -/
theorem test_set_window_clips : nextHas (windowTask 0 0 500 500 ready)
    (fun t => taskWords t.host.tasks == setWindowWords 0 0 239 319) = true := by decide
/-- EX-3 and WW-6. -/
theorem test_fill_rect_clips : fillPlan cfg 230 310 20 20 0xF800 = [.window 230 310 239 319, .fill 0xF800 200] ∧
    fillPlan cfg 10 10 0 5 0 = [] ∧ fillPlan cfg 10 10 5 (-1) 0 = [] := by decide
/-- WW-9: the chunks of `fill_screen`. -/
theorem test_fill_chunks : chunkSizes 4096 153600 153600 = List.replicate 37 4096 ++ [2048] := by decide +kernel
/-- WW-15 and WW-17. -/
theorem test_flush :
    (match plan cfg (.flush 0 0 0 0 [0x1111, 0x2222]) with
      | .ok ts => ts == [.window 0 0 0 0, .block [0x11, 0x11] 2]
      | .error _ => false) = true ∧
    (match plan cfg (.flush 0 0 1 1 [1, 2, 3]) with
      | .ok _ => false
      | .error f => f == .flushRegionInvalid 0 0 1 1 3 (some 4)) = true := by decide
/-- BL-1 and BL-2. -/
theorem test_duty : [0, 1, 2, 10, 25, 33, 50, 67, 75, 99, 100].map (dutyOf cfg) =
      [0, 2, 5, 25, 63, 84, 127, 170, 191, 252, 255] ∧
    [1, 50, 99, 100].map (dutyOf { cfg with dutyMax := 1023 }) = [10, 511, 1012, 1023] := by decide
/-- BL-3 and BL-4. -/
theorem test_backlight_faults : raises (setBacklight 101 ready) (.blRange 101) = true ∧
    raises (setBacklight 101 s0) (.blNotConfigured 101) = true := by decide
/-- TR-4. -/
theorem test_block_too_long : raises (sendDataBlock [0x12, 0x34] 3 ready) (.busLength 3 2) = true := by decide
/-- WW-1. -/
theorem test_draw_before_ready : raises (startOp (.drawPixel 0 0 0xFFFF) s0) (.notReady (.drawPixel 0 0 0xFFFF) .uninit) = true := by
  decide
/-- TR-5 and TR-7: what a failed transaction delivers. -/
theorem test_failed_prefix : deliveredBytes [0x3A] (.error .fail 0 none) = [] ∧
    deliveredBytes [0x01, 0x02, 0x03] (.error .fail 1 (some 0x77)) = [0x01, 0x77] ∧
    deliveredBytes [0x3A] (.error .fail 1 (some 0x77)) = [0x3A] := by decide
/-- A word of the table, placed after reset, is what the next step delivers: PA-1. -/
theorem test_placed_word : raises (step (s0.withFetchWord 16 0x001)) (.notReset false 0x01) = true := by decide

/-! ## Witnesses: each shows states and operands that meet all hypotheses of the statement it names -/

theorem next_of_nextHas {r : Result} {p : State → Bool} (h : nextHas r p = true) : ∃ t, r = .next t ∧ p t = true := by
  cases r with
  | next t => exact ⟨t, rfl, h⟩
  | fault f => simp [nextHas] at h
  | refused f => simp [nextHas] at h

/-- A transaction of data bytes, that will end so. -/
def xferOf (bs : List Byte) (e : Option BusError) : Xfer := { dc := true, words := bs, error := e, start := 600 }

/-- A session in the middle of a pixel block: one cell is written, half a pixel pends, the low byte is next. -/
def session : State :=
  { busy (.sendDataBlock [0xF8, 0x00] 2) [] (some (xferOf [0x00] none)) (writing (some 0xF8)) with
    ctl := { (writing (some 0xF8)).ctl with fb := [(0, 0x12), (1, 0x34)] }
    host := { (busy (.sendDataBlock [0xF8, 0x00] 2) [] (some (xferOf [0x00] none)) (writing (some 0xF8))).host with
      dc := some true, txn := 1 }
    trace := [.resetEdge 100 true, .word 610 true 0xF8 1] }

/-- A session in bring-up step `k`, with these steps left. -/
def inBringUp (k : Nat) (ts : List Task) (x : Option Xfer) : State :=
  { busy .bringUp ts x ready with host := { (busy .bringUp ts x ready).host with fsm := .bringup k } }

/-- Two drawing sessions. -/
def two : List State := [ready, session]

theorem test_witness_ExactlyTenCommandBytes : ∀ b ∈ [0x00#8, 0x02#8, 0x2D#8, 0xFF#8],
    b ∉ [0x01#8, 0x11#8, 0x13#8, 0x21#8, 0x29#8, 0x2A#8, 0x2B#8, 0x2C#8, 0x36#8, 0x3A#8] := by decide
theorem test_witness_FrameReadsBack :
    (let f : Frame := { cmd := .colmod, payload := [0x55] }
     f.wf = true ∧ (f.cmd.payloadShape = .stream → ∀ w, ([0x155#9] : List BusWord).head? = some w → wordDc w = false)) ∧
    (let f : Frame := { cmd := .ramwr, payload := [0x11, 0x22] }
     f.wf = true ∧ (f.cmd.payloadShape = .stream → ∀ w, ([0x02C#9] : List BusWord).head? = some w → wordDc w = false)) :=
  ⟨⟨by decide, by decide⟩, ⟨by decide, fun _ w h => by cases h; decide⟩⟩
theorem test_witness_FrameDecodeIsExact : ∃ f rest, decodeFrame [0x02C, 0x111, 0x122, 0x029] = .ok (f, rest) := ⟨_, _, rfl⟩
theorem test_witness_DeliveryChecksInOrder :
    (inReset s0).host.rstN = some false ∧
    (s0.host.rstN ≠ some false ∧ s0.ctl.parser = .unknown) ∧
    ((atTime 609 ready).host.rstN ≠ some false ∧ (atTime 609 ready).ctl.parser ≠ .unknown ∧
      (atTime 609 ready).host.now < (atTime 609 ready).ctl.settleUntil) := by decide
theorem test_witness_CommandCutsOffOpenFrame : wordDc 0x0FF#9 = false ∧
    (Accepts (withParser (.params .caset [1, 2, 3]) ready) ∧
      (withParser (.params .caset [1, 2, 3]) ready).ctl.parser = .params .caset [1, 2, 3]) ∧
    (Accepts (writing (some 0xF8)) ∧ (writing (some 0xF8)).ctl.parser = .memwrite ∧ (writing (some 0xF8)).ctl.pend ≠ none) := by
  decide
theorem test_witness_UnknownCommandFaults : decode 0x000#9 = .unknown 0x00 ∧ decode 0x0FF#9 = .unknown 0xFF ∧
    Accepts ready ∧ FrameClosed ready ∧ Accepts full ∧ FrameClosed full := by decide
/-- The gate is met at its own time; a frame is closed in an idle parser and after whole pixels. Also for ModeCommandsSetFlagAndGate
and ParameterCommandsOpenFrame. -/
theorem test_witness_SwresetResets : (Accepts ready ∧ FrameClosed ready ∧ ready.host.now = ready.ctl.settleUntil) ∧
    (Accepts (writing none) ∧ FrameClosed (writing none)) := by decide
theorem test_witness_ModeCommandsSetFlagAndGate : Accepts full ∧ FrameClosed full := by decide
theorem test_witness_ParameterCommandsOpenFrame : Accepts (atLast none) ∧ FrameClosed (atLast none) := by decide
/-- The window that is one cell, and the one that is the whole display. -/
theorem test_witness_RamwrOpensWrite :
    (∀ s ∈ [withWindow 0 0 0 0 ready, withWindow 0 239 0 319 ready, withWindow 239 239 319 319 full],
      Accepts s ∧ FrameClosed s ∧ windowSet s = true ∧ s.ctl.colmod = some s.cfg.colmod16bpp ∧
      s.ctl.madctl = some s.cfg.madctlDefault ∧ s.ctl.sleepOut = some true) ∧
    (239#16).toNat < cfg.w ∧ (319#16).toNat < cfg.h := by decide
theorem test_witness_RamwrFaultsInOrder :
    (∀ s ∈ [ready, withWindow 5 4 0 0 ready, withWindow 0 240 0 0 ready, withWindow 0 0 0 320 ready],
      Accepts s ∧ FrameClosed s ∧ windowSet s = false) ∧
    (let s := withWindow 0 0 0 0 { ready with ctl := { ready.ctl with madctl := some 0x40 } }
     Accepts s ∧ FrameClosed s ∧ windowSet s = true ∧ formatSet s = false) ∧
    (let s := withWindow 0 0 0 0 { ready with ctl := { ready.ctl with sleepOut := some false } }
     Accepts s ∧ FrameClosed s ∧ windowSet s = true ∧ formatSet s = true ∧ s.ctl.sleepOut ≠ some true) := by decide
theorem test_witness_ParameterByteIsCollected :
    (Accepts (withParser (.params .caset []) ready) ∧ ([] : List Byte).length + 1 < ParamCmd.caset.nparams) ∧
    (Accepts (withParser (.params .raset [1, 2]) ready) ∧ ([1, 2] : List Byte).length + 1 < ParamCmd.raset.nparams) := by decide
theorem test_witness_LastParameterCommits :
    ∀ p ∈ [Parser.params .caset [0, 5, 0], .params .raset [1, 0, 1], .params .madctl [], .params .colmod []],
      Accepts (withParser p ready) ∧ (withParser p ready).ctl.parser = p := by decide
theorem test_witness_PixelHighByteIsPending : Accepts (writing none) ∧ (writing none).ctl.parser = .memwrite ∧
    (writing none).ctl.exhausted = false ∧ (writing none).ctl.pend = none := by decide
/-- A cell inside its row, the last of a row, and the last of the window. -/
theorem test_witness_PixelLowByteWritesCell :
    (∀ s ∈ [writing (some 0xF8), atLast (some 0xF8)],
      Accepts s ∧ s.ctl.parser = .memwrite ∧ s.ctl.exhausted = false ∧ s.ctl.pend = some 0xF8 ∧ s.ctl.cy = some 7 ∧
      s.ctl.xs = some 3 ∧ s.ctl.xe = some 5 ∧ s.ctl.ye = some 7 ∧ (7#16).toNat < s.cfg.h) ∧
    (writing (some 0xF8)).ctl.cx = some 3 ∧ (atLast (some 0xF8)).ctl.cx = some 5 ∧ (5#16).toNat < cfg.w := by decide
theorem test_witness_StrayAndOverrunDataFault : (Accepts ready ∧ ready.ctl.parser = .idle) ∧
    (Accepts full ∧ full.ctl.parser = .memwrite ∧ full.ctl.exhausted = true) := by decide
/-- No pixel, one, and as many as the window holds. -/
theorem test_witness_PixelStreamFillsRowMajor :
    Accepts cornerWrite ∧ cornerWrite.ctl.parser = .memwrite ∧ cornerWrite.ctl.exhausted = false ∧
    cornerWrite.ctl.pend = none ∧ cornerWrite.ctl.xs = some 238 ∧ cornerWrite.ctl.xe = some 239 ∧
    cornerWrite.ctl.ye = some 1 ∧ cornerWrite.ctl.cx = some 238 ∧ cornerWrite.ctl.cy = some 0 ∧
    windowLegal cornerWrite.cfg 238 239 0 1 = true ∧
    (∀ px ∈ ([[], [0x0102], [0x0102, 0x0304, 0x0506, 0x0708]] : List (List Half)),
      px.length ≤ ((239#16).toNat - (238#16).toNat + 1) * ((1#16).toNat - (0#16).toNat + 1)) := by decide
/-- A command, a data word and an unknown command word. -/
theorem test_witness_WordsLeaveHostSideAlone : (∃ t, deliverWord 0x013 ready = .next t) ∧
    (∃ t, deliverWord 0x100 session = .next t) ∧ ∃ t, deliverWord 0x0FF ready = .next t :=
  ⟨⟨_, rfl⟩, ⟨_, rfl⟩, ⟨_, rfl⟩⟩
theorem test_witness_CommandFrame : ∀ i ∈ [Instr.ramwr, .slpout, .noron, .invon, .dispon, .caset, .raset, .madctl, .colmod],
    i ≠ .swreset ∧ (∀ b, i ≠ .data b) ∧ nextHas (exec i full) (fun t => t.faults == []) = true := by decide
/-- One that resets, in an open write with a window and a flag of each kind set, and one that faults. -/
theorem test_witness_SwresetFrame : (∃ t, exec .swreset full = .next t ∧ (t.faults == [] && t.ctl.xs == none) = true) ∧
    ∃ t, exec .swreset s0 = .next t ∧ (t.ctl == s0.ctl) = true :=
  ⟨next_of_nextHas (by decide), next_of_nextHas (by decide)⟩
/-- One that stores, one that does not. -/
theorem test_witness_DataFrame : (∃ t, exec (.data 0x00) session = .next t ∧ storeAddr session = some 3366) ∧
    ∃ t, exec (.data 0x00) (writing none) = .next t ∧ storeAddr (writing none) = none := ⟨⟨_, rfl, rfl⟩, ⟨_, rfl, rfl⟩⟩
theorem test_witness_TransactionsAreInvisible :
    session.ctl = { session with host := { session.host with txn := 7 } }.ctl ∧
    session.host.now = ({ session.host with txn := 7 } : HostSide).now ∧
    session.host.rstN = ({ session.host with txn := 7 } : HostSide).rstN ∧
    session.cfg = { session with host := { session.host with txn := 7 } }.cfg ∧
    session.faults = { session with host := { session.host with txn := 7 } }.faults := by decide
theorem test_witness_SetWindowWordsOpenWindow :
    ∀ s ∈ [ready, full], Accepts s ∧ FrameClosed s ∧ formatSet s = true ∧ s.ctl.sleepOut = some true ∧
      windowLegal s.cfg 0 239 0 319 = true ∧ windowLegal s.cfg 239 239 319 319 = true := by decide
/-- A data word; and in a command transaction (at level 0) an unknown word. -/
theorem test_witness_StepRunsTheDeliveredWord : session.faults = [] ∧ session.env.slack = 0 ∧
    session.host.op = some (.sendDataBlock [0xF8, 0x00] 2) ∧ overlapDue session = none ∧
    session.host.xfer = some (xferOf [0x00] none) ∧ decode (busWord true 0x00) = .known (.data 0x00) ∧
    (let s := busy (.sendCommand 0xFF) [] (some { xferOf [0xFF] none with dc := false }) ready
     s.faults = [] ∧ s.env.slack = 0 ∧ s.host.op = some (.sendCommand 0xFF) ∧ overlapDue s = none ∧
       s.host.xfer = some { xferOf [0xFF] none with dc := false } ∧ decode (busWord false 0xFF) = .unknown 0xFF) := by decide
theorem test_witness_PlacedWordRunsNext : ready.faults = [] ∧ decodeTableWord 16 0x02C = some .ramwr := by decide
theorem test_witness_FaultsAreStickyAndFinal : (ready.addFault (.blRange 101)).faults = .blRange 101 :: [] ∧
    ∃ t, step session = .next t := ⟨by decide, ⟨_, rfl⟩⟩
theorem test_witness_ConfigurationIsNeverWritten : ∃ t, step session = .next t := ⟨_, rfl⟩
/-- A drawn amount of time passes. -/
theorem test_witness_OnlyTimeMovesTheClock :
    ({ ready with env := { ready.env with slack := 5 } } : State).faults = [] ∧
    ∃ t, step { ready with env := { ready.env with slack := 5 } } = .next t ∧ (t.host.now == 615) = true :=
  ⟨rfl, next_of_nextHas (by decide)⟩
theorem test_witness_OnlyResetLineLeavesUnknown : s0.ctl.parser = .unknown ∧
    ∃ t, step { busy (.driveReset false) [.driveReset false] none s0 with env := { s0.env with ticks := [0] } } = .next t ∧
      (t.ctl.parser == .idle) = true := ⟨by decide, next_of_nextHas (by decide)⟩
theorem test_witness_BacklightIsOffThePixelPath :
    ∃ t, step { busy (.setBacklight 50) [.setBacklight 50] none ready with env := { s0.env with ticks := [0] } } = .next t ∧
      (t.host.blDuty == some 127) = true := next_of_nextHas (by decide)

theorem session_frameMemoryOk : FrameMemoryOk session where
  canonical := by decide
  inside := by decide
  whole := fun k => by
    rcases Nat.eq_zero_or_pos k with rfl | hk
    · rfl
    · simp [session, memRead, Nat.ne_of_gt hk, show 2 * k ≠ 1 by omega]
theorem session_parserOk : ParserOk session where
  params := fun op args h => by cases h
  pending := fun _ => by decide
  writing := fun _ => ⟨by decide, by decide, 3, 5, 7, 7, 3, 7, by decide⟩
theorem session_resetLineOk : ResetLineOk session where
  edge := by decide
  past := fun t h => by cases h
  held := fun h => by cases h
  powerOn := fun h => by cases h
theorem session_operationOk : OperationOk session where
  idle := fun h => by cases h
  line := fun x h => by cases h; decide
  outside := fun _ => ⟨by decide, fun k h => by cases h⟩
  inside := fun h => by cases h
theorem session_backlightOk : BacklightOk session where
  configured := by decide
  bounded := fun d h => by cases h; decide
theorem session_traceOk : TraceOk session where
  ordered := by decide
  past := by decide
  numbered := by simp [session]
  numberedPast := fun t dc b n h => by
    simp only [session, List.mem_cons, reduceCtorEq, Event.word.injEq, List.not_mem_nil, or_false, false_or] at h
    obtain ⟨-, rfl, -, rfl⟩ := h
    decide

/-- The six invariants hold together in a state whose step writes a cell. -/
theorem test_witness_StepKeepsFrameMemory : FrameMemoryOk session ∧
    ∃ t, step session = .next t ∧ (fbRead cfg t.ctl.fb 3 7 == some 0xF800 && fbRead cfg t.ctl.fb 0 0 == some 0x1234) = true :=
  ⟨session_frameMemoryOk, next_of_nextHas (by decide)⟩
theorem test_witness_StepKeepsParser : ParserOk session ∧ ∃ t, step session = .next t ∧ (t.ctl.cx == some 4) = true :=
  ⟨session_parserOk, next_of_nextHas (by decide)⟩
theorem test_witness_StepKeepsResetLine : ResetLineOk session ∧ ∃ t, step session = .next t :=
  ⟨session_resetLineOk, ⟨_, rfl⟩⟩
theorem test_witness_StepKeepsOperation : OperationOk session ∧ ∃ t, step session = .next t ∧ (t.host.xfer == some (xferOf [] none)) = true :=
  ⟨session_operationOk, next_of_nextHas (by decide)⟩
theorem test_witness_StepKeepsBacklight : BacklightOk session ∧ ∃ t, step session = .next t := ⟨session_backlightOk, ⟨_, rfl⟩⟩
theorem test_witness_StepKeepsTrace : OperationOk session ∧ TraceOk session ∧
    ∃ t, step session = .next t ∧ (t.trace.length == 3) = true :=
  ⟨session_operationOk, session_traceOk, next_of_nextHas (by decide)⟩
theorem test_witness_NoStopButAHeldFault : ∃ f, ParserOk (session.addFault (.blRange 101)) ∧
    ResetLineOk (session.addFault (.blRange 101)) ∧ OperationOk (session.addFault (.blRange 101)) ∧
    step (session.addFault (.blRange 101)) = .fault f :=
  ⟨_, ⟨session_parserOk.params, session_parserOk.pending, session_parserOk.writing⟩,
    ⟨session_resetLineOk.edge, session_resetLineOk.past, session_resetLineOk.held, session_resetLineOk.powerOn⟩,
    ⟨session_operationOk.idle, session_operationOk.line, session_operationOk.outside, session_operationOk.inside⟩, rfl⟩

/-- Nothing delivered, a prefix and another byte, everything. -/
theorem test_witness_FailedTransactionDeliversPrefix :
    ({ ready.env with bus := [.error .timeout 1 (some 0x77)] } : Env).nextBus = .error .timeout 1 (some 0x77) ∧
    ∀ p ∈ ([(0, []), (1, [0x77]), (2, [])] : List (Nat × List Byte)),
      p.1 ≤ ([0x01, 0x02] : List Byte).length ∧ p.2.length ≤ 1 ∧ (p.1 = ([0x01, 0x02] : List Byte).length → p.2 = []) := by
  decide
theorem test_witness_BlockLengthCorners : ([0x12, 0x34] : List Byte).length < 3 := by decide
theorem test_witness_TransportCallBeginsTransaction :
    ({ ready.env with bus := [.ok] } : Env).nextBus = .ok ∧
    ({ ready.env with bus := [.error .fail 0 none] } : Env).nextBus = .error .fail 0 none ∧ 0 < 2 ∧
    2 ≤ ([0x12, 0x34] : List Byte).length := by decide
/-- Its step clause: a call, a fault's call, and a hold that is over just now. -/
theorem test_witness_TransportCallBeginsTransaction_step :
    ∀ t ∈ [Task.command 0x29, .block [0x12, 0x34] 3, .hold],
      (let s := { busy (.delay 0) [t] none ready with host := { (busy (.delay 0) [t] none ready).host with wakeAt := 610 } }
       s.faults = [] ∧ s.env.slack = 0 ∧ s.host.op = some (.delay 0) ∧ overlapDue s = none ∧ s.host.xfer = none ∧
         s.host.tasks = t :: [] ∧ (t = .hold → s.host.wakeAt ≤ s.host.now) ∧
         nextHas (runTask t { countOverlap s with host := { s.host with tasks := [] } }) (fun _ => true) = true) := by decide
/-- TR-8: held until 660 from 610. -/
theorem test_witness_TimeoutHoldsThenReturns :
    ∀ n ∈ [649, 650], (let s := atTime n (busy (.sendCommand 0x13) [] (some (xferOf [] (some .timeout))) ready)
      s.faults = [] ∧ s.env.slack = 0 ∧ s.host.op = some (.sendCommand 0x13) ∧ overlapDue s = none ∧
      s.host.xfer = some (xferOf [] (some .timeout)) ∧ (s.host.now < 600 + s.cfg.tBusTimeout ↔ n = 649)) := by decide
theorem test_witness_FailedTransactionEndsOperation :
    ∀ op ∈ [HostOp.bringUp, .fillScreen 0xABCD], (let s := busy op [.command 0x13] (some (xferOf [] (some .fail))) ready
      s.faults = [] ∧ s.env.slack = 0 ∧ s.host.op = some op ∧ overlapDue s = none ∧
      s.host.xfer = some (xferOf [] (some .fail))) := by decide
/-- Outside READY; in READY, and an operation that does not draw outside it; bring-up from power-on. -/
theorem test_witness_DrawingNeedsReady : (isDrawing (.fillScreen 0) = true ∧ s0.host.fsm ≠ .ready) ∧
    (HostOp.drawPixel 240 0 0 ≠ .bringUp ∧ ready.host.fsm = .ready ∧ plan ready.cfg (.drawPixel 240 0 0) = .ok []) ∧
    (HostOp.sendCommand 0x29 ≠ .bringUp ∧ isDrawing (.sendCommand 0x29) = false ∧
      plan s0.cfg (.sendCommand 0x29) = .ok [.command 0x29]) ∧
    (HostOp.flush 0 0 240 0 [] ≠ .bringUp ∧ ready.host.fsm = .ready ∧
      plan ready.cfg (.flush 0 0 240 0 []) = .error (.flushRegionInvalid 0 0 240 0 0 none)) ∧
    (∀ k, s0.host.fsm ≠ .bringup k) :=
  ⟨by decide, ⟨by decide, rfl, rfl⟩, ⟨by decide, rfl, rfl⟩, ⟨by decide, rfl, rfl⟩, fun k h => by cases h⟩
/-- Its step clauses: a call that starts, one that faults, and no call. -/
theorem test_witness_DrawingNeedsReady_step :
    (∀ op ∈ [HostOp.sendCommand 0x29, .flush 0 0 240 0 []], (let s := calling { op := op } ready
      s.faults = [] ∧ s.env.slack = 0 ∧ s.host.op = none ∧ s.env.calls = { op := op } :: [] ∧
        nextHas (startOp op { s with env := { s.env with calls := [] } }) (fun _ => true) = true)) ∧
    (ready.faults = [] ∧ ready.env.slack = 0 ∧ ready.host.op = none ∧ ready.env.calls = []) := by decide
/-- TR-9. -/
theorem test_witness_OverlappingCallFaults :
    let s := calling { op := .sendDataBlock [0x2A, 0x00] 2, overlap := some 0 } (busy (.fillScreen 0) [] none ready)
    s.faults = [] ∧ s.env.slack = 0 ∧ s.host.op = some (.fillScreen 0) ∧
      s.env.calls = { op := .sendDataBlock [0x2A, 0x00] 2, overlap := some 0 } :: [] := by decide
/-- Bounds at each edge of the accepted range, and one outside each. -/
theorem test_witness_SetWindowClipsAndChecks : ready.cfg.wf = true ∧
    (∀ b ∈ ([(0, 0, 0, 0), (239, 319, 500, 500), (0, 0, 239, 319)] : List (Int × Int × Int × Int)),
      0 ≤ b.1 ∧ b.1 ≤ min b.2.2.1 ((ready.cfg.w : Int) - 1) ∧ 0 ≤ b.2.1 ∧ b.2.1 ≤ min b.2.2.2 ((ready.cfg.h : Int) - 1)) ∧
    (∀ b ∈ ([(-1, 0, 3, 0), (5, 0, 4, 0), (240, 0, 260, 0), (0, 320, 0, 320)] : List (Int × Int × Int × Int)),
      ¬(0 ≤ b.1 ∧ b.1 ≤ min b.2.2.1 ((ready.cfg.w : Int) - 1) ∧ 0 ≤ b.2.1 ∧ b.2.1 ≤ min b.2.2.2 ((ready.cfg.h : Int) - 1))) := by
  decide
theorem test_witness_DrawPixelPlan :
    (∀ p ∈ ([(0, 0), (239, 319)] : List (Int × Int)), 0 ≤ p.1 ∧ p.1 < cfg.w ∧ 0 ≤ p.2 ∧ p.2 < cfg.h) ∧
    (∀ p ∈ ([(-1, 0), (240, 319), (0, 320), (0, -1)] : List (Int × Int)), ¬(0 ≤ p.1 ∧ p.1 < cfg.w ∧ 0 ≤ p.2 ∧ p.2 < cfg.h)) := by
  decide
/-- A rectangle of one visible cell at the corner, and one just off the display. -/
theorem test_witness_FillRectClipsOnAllSides : cfg.wf = true ∧
    (max (-5) 0 < min (-5 + 6 : Int) cfg.w ∧ max (-5) 0 < min (-5 + 6 : Int) cfg.h) ∧
    (min (-5 + 5 : Int) cfg.w ≤ max (-5) 0 ∨ min (-5 + 6 : Int) cfg.h ≤ max (-5) 0) := by decide
theorem test_witness_FillChunksAreFullThenRest : 0 < 4096 ∧ 4224 ≤ 4224 ∧ ready.cfg.chunkBytes = 4096 ∧ 2 * 2048 ≤ 4096 := by
  decide
/-- The last cell of the display; a buffer that is just long enough, and one too short by one. -/
theorem test_witness_FlushChecksThenSendsRegion : ready.host.fsm = .ready ∧ ready.cfg = cfg ∧
    (let (x1, y1, x2, y2) := ((238, 319, 239, 319) : Int × Int × Int × Int)
     (0 ≤ x1 ∧ x1 ≤ x2 ∧ x2 < cfg.w ∧ 0 ≤ y1 ∧ y1 ≤ y2 ∧ y2 < cfg.h) ∧ ((2 : Nat) : Int) = (x2 - x1 + 1) * (y2 - y1 + 1)) ∧
    2 ≤ ([1, 2] : List Half).length ∧ ([1] : List Half).length < 2 ∧
    (let (x1, y1, x2, y2) := ((0, 0, 240, 0) : Int × Int × Int × Int)
     ¬(0 ≤ x1 ∧ x1 ≤ x2 ∧ x2 < cfg.w ∧ 0 ≤ y1 ∧ y1 ≤ y2 ∧ y2 < cfg.h)) := by decide
/-- An operation with no step left, and one at the end of an `OK` transaction with a step left. -/
theorem test_witness_OnlyFlushSignalsCompletion :
    (let s := busy (.flush 0 0 0 0 [5]) [] none ready
     s.faults = [] ∧ s.env.slack = 0 ∧ s.host.op = some (.flush 0 0 0 0 [5]) ∧ overlapDue s = none ∧ s.host.xfer = none ∧
       s.host.tasks = []) ∧
    (let s := busy .bringUp [.delay 10] (some (xferOf [] none)) ready
     s.faults = [] ∧ s.env.slack = 0 ∧ s.host.op = some .bringUp ∧ overlapDue s = none ∧
       s.host.xfer = some (xferOf [] none)) := by decide
/-- A release at 99 ms and at 100 ms after the falling edge; an edge from each other level. -/
theorem test_witness_ResetLineDrivesReset : s0.host.rstN ≠ some false ∧ ready.host.rstN ≠ some false ∧
    (let s := inReset (atTime 99 s0)
     s.host.rstN = some false ∧ s.host.rstLowSince = some 0 ∧ s.host.now - 0 < s.cfg.tRstLow) ∧
    (let s := inReset (atTime 100 s0)
     s.host.rstN = some false ∧ s.host.rstLowSince = some 0 ∧ s.cfg.tRstLow ≤ s.host.now - 0) := by decide
theorem test_witness_DelayHoldsUntilWakeTime :
    ∀ ts ∈ [[Task.delay 10], [.hold]], ∀ n ∈ [619, 620],
      (let s := atTime n { busy (.delay 10) ts none ready with
          host := { (busy (.delay 10) ts none ready).host with wakeAt := 620 } }
       s.faults = [] ∧ s.env.slack = 0 ∧ s.host.op = some (.delay 10) ∧ overlapDue s = none ∧ s.host.xfer = none ∧
       s.host.tasks = ts ∧ (s.host.now < s.host.wakeAt ↔ n = 619)) := by decide
theorem test_witness_BringUpSendsItsStepsInOrder :
    bringUpTasks cfg = [.driveReset false, .delay 100, .driveReset true, .delay 100, .phase 2] ++
      .command 0x01 :: .delay 150 :: (bringUpTasks cfg).drop 7 ∧
    bringUpTasks cfg = (bringUpTasks cfg).take 16 ++ .phase 6 :: [.command 0x21, .delay 10] ++
      .phase (6 + 1) :: (bringUpTasks cfg).drop 20 ∧
    .phase 5 ∈ bringUpTasks cfg := by decide
/-- The first step, a step in the middle, the last step, and a failed transaction. -/
theorem test_witness_BringUpTransitions :
    (∃ t, step (calling { op := .bringUp } ready) = .next t ∧ (t.host.fsm == .bringup 1) = true) ∧
    (∃ t, step { inBringUp 8 [.phase 9] none with env := { s0.env with ticks := [0] } } = .next t ∧ (t.host.fsm == .bringup 9) = true) ∧
    (∃ t, step { inBringUp 9 [] none with env := { s0.env with ticks := [0] } } = .next t ∧ (t.host.fsm == .ready) = true) ∧
    (∃ t, step { inBringUp 3 [] (some (xferOf [] (some .fail))) with env := { s0.env with ticks := [0] } } = .next t ∧
      (t.host.fsm == .failed) = true) :=
  ⟨next_of_nextHas (by decide), next_of_nextHas (by decide), next_of_nextHas (by decide), next_of_nextHas (by decide)⟩
/-- The invariant that BringUpTransitions assumes, in such a state. -/
theorem test_witness_BringUpTransitions_inv : OperationOk (inBringUp 8 [.phase 9] none) where
  idle := fun h => by cases h
  line := fun x h => by cases h
  outside := fun h => absurd rfl h
  inside := fun _ => ⟨8, by decide⟩
theorem test_witness_SetBacklightCommitsDuty : s0.host.blCfg = false ∧ ready.host.blCfg = true ∧ 100 < 101 ∧ 100 ≤ 100 := by
  decide
theorem test_witness_DutyMapEndsAndOrder : 99 ≤ 100 ∧ ({ cfg with dutyMax := 99 } : Config).dutyMax < 100 := by decide
theorem test_witness_OtherSessionsKeepTheirStates : ∃ ts, sessionsStep two 1 = some (.next ts) := ⟨_, rfl⟩

end Sys2Proof.Tests
end

section
/-! PROOFS. What a step can do to the controller, the lines and the backlight, each said once (a delivered word, a task,
the rest of the host's work), and the induction over these parts that the invariants of 10_state.md are proved by. -/

namespace Sys2Proof.Machine

/-! ## What a delivered word can do -/

/-- What an accepted word can make of the controller (R99 to R101, R111 to R117, R130 to R136); `s` is the state with the
word on the bus. -/
inductive WordEffect (s : State) : Controller → Prop where
  | keep : WordEffect s s.ctl
  | close (closed : FrameClosed s) : WordEffect s (s.ctl.setParser .idle)
  | reset (closed : FrameClosed s) (gate : Nat) : WordEffect s (s.ctl.toReset.setSettle gate)
  | mode (closed : FrameClosed s) (c : Controller) (gate : Nat)
      (flag : c ∈ [s.ctl.setSleepOut, s.ctl.setNormalOn, s.ctl.setInvOn, s.ctl.setDispOn]) :
      WordEffect s ((c.setParser .idle).setSettle gate)
  | openParams (closed : FrameClosed s) (op : ParamCmd) : WordEffect s (s.ctl.setParser (.params op []))
  | openWrite (closed : FrameClosed s) (xs xe ys ye : Half) (hxs : s.ctl.xs = some xs) (hxe : s.ctl.xe = some xe)
      (hys : s.ctl.ys = some ys) (hye : s.ctl.ye = some ye) (legal : windowLegal s.cfg xs xe ys ye = true)
      (format : formatSet s = true) (awake : s.ctl.sleepOut = some true) : WordEffect s (openWrite xs ys s.ctl)
  | param (op : ParamCmd) (args : List Byte) (parser : s.ctl.parser = .params op args) (b : Byte)
      (short : (args ++ [b]).length < op.nparams) : WordEffect s (s.ctl.setParser (.params op (args ++ [b])))
  | columns (args : List Byte) (parser : s.ctl.parser = .params .caset args) (b : Half × Half) :
      WordEffect s ((s.ctl.setParser .idle).setColumns b)
  | rows (args : List Byte) (parser : s.ctl.parser = .params .raset args) (b : Half × Half) :
      WordEffect s ((s.ctl.setParser .idle).setRows b)
  | madctl (args : List Byte) (parser : s.ctl.parser = .params .madctl args) (m : Byte) :
      WordEffect s ((s.ctl.setParser .idle).setMadctl m)
  | colmod (args : List Byte) (parser : s.ctl.parser = .params .colmod args) (p : Byte) :
      WordEffect s ((s.ctl.setParser .idle).setColmod p)
  | highByte (b : Byte) (parser : s.ctl.parser = .memwrite) (room : s.ctl.exhausted = false)
      (first : s.ctl.pend = none) : WordEffect s (s.ctl.setPend (some b))
  | pixel (h l : Byte) (cx cy xs xe ye : Half) (parser : s.ctl.parser = .memwrite) (room : s.ctl.exhausted = false)
      (second : s.ctl.pend = some h) (hcx : s.ctl.cx = some cx) (hcy : s.ctl.cy = some cy) (hxs : s.ctl.xs = some xs)
      (hxe : s.ctl.xe = some xe) (hye : s.ctl.ye = some ye) (inW : cx.toNat < s.cfg.w) (inH : cy.toNat < s.cfg.h) :
      WordEffect s (advance xs xe ye cx cy
        ((s.ctl.setPend none).setFb (fbWrite s.cfg s.ctl.fb cx.toNat cy.toNat (join16 h l))))

/-- `t` is `s` with the controller `c`, and perhaps one more fault. -/
def EndsWith (s : State) (c : Controller) (t : State) : Prop :=
  t = s.setCtl c ∨ ∃ f, t = (s.setCtl c).addFault f

/-- `t` is what delivering `w` to `s` can leave (R98): the word on the bus, the controller as it was or as an accepted word
makes it, and perhaps one more fault. -/
def Delivered (w : BusWord) (s t : State) : Prop :=
  ∃ c, (c = s.ctl ∨ (Accepts s ∧ WordEffect (logWord w s) c)) ∧ EndsWith (logWord w s) c t

theorem delivered_of_fault (w : BusWord) (s : State) (f : Raised) : Delivered w s ((logWord w s).addFault f) :=
  ⟨s.ctl, .inl rfl, .inr ⟨f, rfl⟩⟩

/-- A commit writes a register of its command and leaves the parser idle (R101). -/
theorem commitParams_effect {op : ParamCmd} {args args' : List Byte} {s t : State} (hp : s.ctl.parser = .params op args)
    (h : commitParams op args' (closeStream s) = .next t) : ∃ c, WordEffect s c ∧ EndsWith s c t := by
  rcases commitParams_cases op args' (closeStream s) with
    ⟨rfl, b, hc⟩ | ⟨rfl, b, hc⟩ | ⟨rfl, m, hc⟩ | ⟨rfl, p, hc⟩ | ⟨-, hc⟩ <;> rw [hc] at h <;> cases h
  · exact ⟨_, .columns args hp b, .inl rfl⟩
  · exact ⟨_, .rows args hp b, .inl rfl⟩
  · exact ⟨_, .madctl args hp m, .inl rfl⟩
  · exact ⟨_, .colmod args hp p, .inl rfl⟩

/-- A data word at the parser (R100). -/
theorem dataWord_effect {b : Byte} {s t : State} (h : dataWord b s = .next t) :
    ∃ c, WordEffect s c ∧ EndsWith s c t := by
  rcases dataWord_cases b s with ⟨f, hd⟩ | ⟨op, args, hp, hl, hd⟩ | ⟨op, args, hp, -, hd⟩ | ⟨hp, he, hq, hd⟩ |
    ⟨v, hp, he, hq, hd⟩ <;> rw [hd] at h
  · cases h
    exact ⟨_, .keep, .inr ⟨f, rfl⟩⟩
  · cases h
    exact ⟨_, .param op args hp b hl, .inl rfl⟩
  · exact commitParams_effect hp h
  · cases h
    exact ⟨_, .highByte b hp he hq, .inl rfl⟩
  · rcases pixelLow_cases v b s with ⟨cx, cy, xs, xe, ye, hcx, hcy, hxs, hxe, hye, hw, hh, hl⟩ | ⟨_, _, -, -, -, hl⟩ |
      ⟨-, hl⟩ <;> rw [hl] at h <;> cases h
    exact ⟨_, .pixel v b cx cy xs xe ye hp he hq hcx hcy hxs hxe hye hw hh, .inl rfl⟩

/-- RAMWR's `Execute`, once the earlier stream is closed (R114). -/
theorem ramwrEffect_effect {s t : State} (closed : FrameClosed s) (h : ramwrEffect (closeStream s) = .next t) :
    ∃ c, WordEffect s c ∧ EndsWith s c t := by
  rcases ramwrEffect_cases (closeStream s) with ⟨xs, xe, ys, ye, hxs, hxe, hys, hye, hw, hf, hs, hr⟩ | ⟨f, hr⟩ <;>
    rw [hr] at h <;> cases h
  · exact ⟨_, .openWrite closed xs xe ys ye hxs hxe hys hye hw hf hs, .inl rfl⟩
  · exact ⟨_, .close closed, .inr ⟨f, rfl⟩⟩

/-- A command word whose `Execute` makes of the controller what `WordEffect` allows. -/
theorem commandWord_delivered {i : Instr} {body : State → Result} {s t : State}
    (hbody : ∀ u v, FrameClosed u → body (closeStream u) = .next v → ∃ c, WordEffect u c ∧ EndsWith u c v)
    (h : commandWord i body s = .next t) : Delivered (encode i) s t := by
  rcases commandWord_cases i body s with ⟨ha, hc, hb⟩ | ⟨f, hf⟩
  · obtain ⟨c, hw, he⟩ := hbody (logWord (encode i) s) t hc (hb.symm.trans h)
    exact ⟨c, .inr ⟨ha, hw⟩, he⟩
  · rw [hf] at h
    cases h
    exact delivered_of_fault _ s f

/-- A mode command's `Execute` (R131, R134 to R136). -/
theorem modeEffect_effect {u v : State} {f : Controller → Controller} {gate : Nat} (closed : FrameClosed u)
    (flag : f u.ctl ∈ [u.ctl.setSleepOut, u.ctl.setNormalOn, u.ctl.setInvOn, u.ctl.setDispOn])
    (parser : (f (u.ctl.setParser .idle)).setParser .idle = (f u.ctl).setParser .idle)
    (h : Host.Outcome.next (modeEffect (f (closeStream u).ctl) gate (closeStream u)) = (.next v : Result)) :
    ∃ c, WordEffect u c ∧ EndsWith u c v := by
  cases h
  refine ⟨_, .mode closed _ gate flag, .inl ?_⟩
  rw [← parser]
  rfl

/-- An `Execute` that opens a parameter list (R111, R113, R132, R133). -/
theorem openParams_effect {op : ParamCmd} {u v : State} (closed : FrameClosed u)
    (h : openParams op (closeStream u) = .next v) : ∃ c, WordEffect u c ∧ EndsWith u c v := by
  cases h
  exact ⟨_, .openParams closed op, .inl rfl⟩

/-- All that a known word can do. -/
theorem exec_delivered {i : Instr} {s t : State} (h : exec i s = .next t) : Delivered (encode i) s t := by
  cases i with
  | swreset => exact commandWord_delivered (fun u v hc hv => by cases hv; exact ⟨_, .reset hc _, .inl rfl⟩) h
  | slpout =>
    exact commandWord_delivered (fun u v hc hv => modeEffect_effect (f := .setSleepOut) hc (by simp) rfl hv) h
  | noron =>
    exact commandWord_delivered (fun u v hc hv => modeEffect_effect (f := .setNormalOn) hc (by simp) rfl hv) h
  | invon => exact commandWord_delivered (fun u v hc hv => modeEffect_effect (f := .setInvOn) hc (by simp) rfl hv) h
  | dispon =>
    exact commandWord_delivered (fun u v hc hv => modeEffect_effect (f := .setDispOn) hc (by simp) rfl hv) h
  | caset => exact commandWord_delivered (fun _ _ => openParams_effect) h
  | raset => exact commandWord_delivered (fun _ _ => openParams_effect) h
  | madctl => exact commandWord_delivered (fun _ _ => openParams_effect) h
  | colmod => exact commandWord_delivered (fun _ _ => openParams_effect) h
  | ramwr => exact commandWord_delivered (fun _ _ => ramwrEffect_effect) h
  | data b =>
    rcases deliver_cases (encode (.data b)) (dataWord b) s with ⟨ha, hd⟩ | ⟨-, f, hd⟩
    · obtain ⟨c, hw, he⟩ := dataWord_effect (hd.symm.trans h)
      exact ⟨c, .inr ⟨ha, hw⟩, he⟩
    · cases hd.symm.trans h
      exact delivered_of_fault _ s f

/-- All that a bus word can do, known or not (R85, R98). -/
theorem deliverWord_delivered {w : BusWord} {s t : State} (h : deliverWord w s = .next t) : Delivered w s t := by
  unfold deliverWord at h
  split at h
  · rename_i i hi
    exact encode_of_decode hi ▸ exec_delivered h
  · rename_i b hb
    obtain rfl := word_of_decode_unknown hb
    rcases execUnknown_cases b s with ⟨ha, hc, hu⟩ | ⟨f, hu⟩ <;> rw [hu] at h <;> cases h
    · exact ⟨_, .inr ⟨ha, .close hc⟩, .inr ⟨_, rfl⟩⟩
    · exact delivered_of_fault _ s f

theorem Delivered.host {w : BusWord} {s t : State} (h : Delivered w s t) : t.host = s.host := by
  obtain ⟨c, -, rfl | ⟨f, rfl⟩⟩ := h <;> rfl

/-! ## What a step of an operation can do -/

@[simp] theorem phases_append (ts us : List Task) : phases (ts ++ us) = phases ts ++ phases us := by
  induction ts with
  | nil => rfl
  | cons k ts ih => cases k <;> simp [phases, ih]

theorem phases_cons_of_ne {k : Task} (h : ∀ n, k ≠ .phase n) (rest : List Task) : phases (k :: rest) = phases rest :=
  phases.eq_3 k rest h

theorem HostSide.setBlCfg_of_configured {h : HostSide} (hc : h.blCfg = true) : h.setBlCfg = h := by
  simp [HostSide.setBlCfg, ← hc]

/-- The duty map stays within `DUTY_MAX` (R162). -/
theorem dutyOf_le {c : Config} {p : Nat} (h : p ≤ 100) : dutyOf c p ≤ c.dutyMax := by
  unfold dutyOf
  have : p * c.dutyMax ≤ 100 * c.dutyMax := Nat.mul_le_mul_right _ h
  omega

/-- What a task, taken off `tasks`, can make of the state (R91): a fault, a transaction begun, tasks without a bring-up
step put before the rest, a driven reset line, a bring-up step, or a duty code committed on a configured channel. -/
inductive TaskEffect (s : State) : Task → State → Prop where
  | fault (k : Task) (f : Raised) : TaskEffect s k (s.addFault f)
  | transfer (k : Task) (dc : Level) (bytes : List Byte) : TaskEffect s k (beginTransfer dc bytes s)
  | push (k : Task) (ts : List Task) (wake : Nat) (noPhase : phases ts = []) :
      TaskEffect s k (pushTasks ts (s.setHost (s.host.setWakeAt wake)))
  | line (l : Level) (t : State) (driven : driveReset l s = .next t) : TaskEffect s (.driveReset l) t
  | phase (n : Nat) : TaskEffect s (.phase n) (s.setHost (s.host.setFsm (.bringup n)))
  | duty (k : Task) (d : Nat) (bounded : d ≤ s.cfg.dutyMax) :
      TaskEffect s k (pwmCommit d (s.setHost s.host.setBlCfg))

/-- A task that leaves the state as it is. -/
theorem TaskEffect.nothing (s : State) (k : Task) : TaskEffect s k s := .push k [] s.host.wakeAt rfl

theorem sendDataBlock_effect {bytes : List Byte} {n : Nat} {s t : State} (k : Task)
    (h : sendDataBlock bytes n s = .next t) : TaskEffect s k t := by
  rcases sendDataBlock_cases bytes n s with ⟨-, hb⟩ | ⟨-, hb⟩ | ⟨-, -, hb⟩ <;> rw [hb] at h <;> cases h
  · exact .fault k _
  · exact .nothing s k
  · exact .transfer k _ _

theorem windowTask_effect {x1 y1 x2 y2 : Int} {s t : State} (k : Task) (h : windowTask x1 y1 x2 y2 s = .next t) :
    TaskEffect s k t := by
  unfold windowTask at h
  split at h <;> cases h
  · exact .fault k _
  · exact .push k _ s.host.wakeAt rfl

theorem fillTask_effect {c : Half} {total : Nat} {s t : State} (k : Task) (h : fillTask c total s = .next t) :
    TaskEffect s k t := by
  unfold fillTask at h
  split at h <;> cases h
  · exact .nothing s k
  · exact .push k _ s.host.wakeAt rfl

theorem setBacklight_effect {p : Nat} {s t : State} (k : Task) (h : setBacklight p s = .next t) : TaskEffect s k t := by
  unfold setBacklight at h
  split at h
  · cases h
    exact .fault k _
  · rename_i hc
    split at h <;> cases h
    · exact .fault k _
    · rename_i hp
      have e : s.setHost s.host.setBlCfg = s := by
        rw [HostSide.setBlCfg_of_configured (by simpa using hc), State.setHost_self]
      exact e ▸ TaskEffect.duty k _ (dutyOf_le (by omega))

/-- All that a task can do. -/
theorem runTask_effect {k : Task} {s t : State} (h : runTask k s = .next t) : TaskEffect s k t := by
  cases k with
  | command b => cases h; exact .transfer _ _ _
  | data b => cases h; exact .transfer _ _ _
  | block bytes length => exact sendDataBlock_effect _ h
  | window x1 y1 x2 y2 => exact windowTask_effect _ h
  | fill c total => exact fillTask_effect _ h
  | driveReset level => exact .line level t h
  | delay ms => cases h; exact .push _ _ _ rfl
  | hold => cases h; exact .nothing _ _
  | phase n => cases h; exact .phase n
  | configureBacklight => cases h; exact .duty _ _ le_rfl
  | setBacklight p => exact setBacklight_effect _ h

/-- All that one step of the operation in progress can do (R95, R171): deliver a word, end a transaction, return, or run the
next task. -/
theorem opStep_cases {op : HostOp} {s t : State} (h : opStep op s = .next t) :
    (∃ x b, s.host.xfer = some x ∧ Delivered (busWord x.dc b) (takeWord x s) t) ∨
    t = s.setHost (s.host.setXfer none) ∨
    (∃ e, t = finishOp op e s) ∨
    (∃ k rest, s.host.xfer = none ∧ s.host.tasks = k :: rest ∧
      runTask k (s.setHost (s.host.setTasks rest)) = .next t) := by
  unfold opStep at h
  split at h
  · rename_i x hx
    unfold xferStep at h
    split at h
    · exact .inl ⟨x, _, hx, deliverWord_delivered h⟩
    · split at h <;> cases h
      · exact .inr (.inl rfl)
      · exact .inr (.inr (.inl ⟨_, rfl⟩))
  · rename_i hx
    unfold taskStep at h
    split at h
    · cases h
      exact .inr (.inr (.inl ⟨_, rfl⟩))
    · rename_i k rest hk
      exact .inr (.inr (.inr ⟨k, rest, hx, hk, h⟩))

/-- What a return leaves of the host side (R93, R137, R171). -/
theorem finishOp_host (op : HostOp) (e : Option BusError) (s : State) : (finishOp op e s).host =
    ((((s.host.setFsm (finalFsm op e s.host.fsm)).setStatus (finalStatus op e)).setOp none).setTasks []).setXfer none := by
  simp [finishOp]

/-! ## The induction over the parts of a step -/

/-- `t` differs from `s` at most in what the host keeps of its operation (`dc`, `op`, `fsm`, `wakeAt`, tasks, transaction,
status), the inputs, the trace and the faults: the controller, the parameters, the reset line, the clock and the backlight
are as they were (by computation, for the updates of the host's own fields: `{}`). -/
structure Bookkeeping (s t : State) : Prop where
  ctl : t.ctl = s.ctl := by rfl
  cfg : t.cfg = s.cfg := by rfl
  rstN : t.host.rstN = s.host.rstN := by rfl
  rstLowSince : t.host.rstLowSince = s.host.rstLowSince := by rfl
  now : t.host.now = s.host.now := by rfl
  blCfg : t.host.blCfg = s.host.blCfg := by rfl
  blDuty : t.host.blDuty = s.host.blDuty := by rfl

theorem bookkeeping_finishOp (op : HostOp) (e : Option BusError) (s : State) : Bookkeeping s (finishOp op e s) := by
  constructor <;> simp [finishOp_host]

/-- Starting an operation is bookkeeping (R93, R147). -/
theorem bookkeeping_startOp {op : HostOp} {s t : State} (h : startOp op s = .next t) : Bookkeeping s t := by
  rcases startOp_cases op s with ⟨f, hs⟩ | ⟨-, f, hs⟩ | ⟨-, ts, -, hs⟩ | ⟨-, -, hs⟩ | ⟨-, k, -, hs⟩ <;>
    rw [hs] at h <;> cases h
  all_goals exact {}

section
variable {P : State → Prop} (bookkeeping : ∀ s t, Bookkeeping s t → P s → P t)
include bookkeeping

/-- What bookkeeping and accepted words keep, a delivery keeps. -/
theorem delivered_keeps (word : ∀ s c, P s → Accepts s → WordEffect s c → P (s.setCtl c)) {w : BusWord} {s t : State}
    (hs : P s) (h : Delivered w s t) : P t := by
  obtain ⟨c, hc, he⟩ := h
  have logged : P (logWord w s) := bookkeeping s _ {} hs
  have controlled : P ((logWord w s).setCtl c) := by
    rcases hc with rfl | ⟨ha, hw⟩
    · exact logged
    · exact word _ c logged ha hw
  rcases he with rfl | ⟨f, rfl⟩
  · exact controlled
  · exact bookkeeping ((logWord w s).setCtl c) _ {} controlled

/-- What bookkeeping, the reset line and a committed duty keep, a task keeps. -/
theorem taskEffect_keeps (line : ∀ l s t, P s → driveReset l s = .next t → P t)
    (duty : ∀ s d, P s → d ≤ s.cfg.dutyMax → P (pwmCommit d (s.setHost s.host.setBlCfg))) {k : Task} {s t : State}
    (hs : P s) (h : TaskEffect s k t) : P t := by
  cases h with
  | line l t hd => exact line l s t hs hd
  | duty k d hd => exact duty s d hs hd
  | _ => exact bookkeeping s _ {} hs

/-- The induction over one step of an invariant that bookkeeping cannot break: time, accepted words, the reset line and
committed duties are left to check. -/
theorem step_keeps_of_parts (time : ∀ s d, P s → P (tick d s))
    (word : ∀ s c, P s → Accepts s → WordEffect s c → P (s.setCtl c))
    (line : ∀ l s t, P s → driveReset l s = .next t → P t)
    (duty : ∀ s d, P s → d ≤ s.cfg.dutyMax → P (pwmCommit d (s.setHost s.host.setBlCfg)))
    {s t : State} (hs : P s) (h : step s = .next t) : P t := by
  refine step_keeps (P := P) (fun s e => bookkeeping s _ {}) time
    (fun s f => bookkeeping s _ {}) ?_
    (fun s op t _ hs hstart => bookkeeping s t (bookkeeping_startOp hstart) hs) hs h
  intro s op t _ _ hs hstep
  rcases opStep_cases hstep with ⟨x, b, -, hd⟩ | rfl | ⟨e, rfl⟩ | ⟨k, rest, -, -, hk⟩
  · exact delivered_keeps bookkeeping word (bookkeeping s (takeWord x s) {} hs) hd
  · exact bookkeeping s _ {} hs
  · exact bookkeeping s _ (bookkeeping_finishOp op e s) hs
  · exact taskEffect_keeps bookkeeping line duty
      (bookkeeping s (s.setHost (s.host.setTasks rest)) {} hs) (runTask_effect hk)

end

/-- What driving the reset line leaves alone, and that the controller is left or reset (R125). -/
theorem driveReset_frame {l : Level} {s t : State} (h : driveReset l s = .next t) :
    t.cfg = s.cfg ∧ (t.ctl = s.ctl ∨ ∃ gate, t.ctl = s.ctl.toReset.setSettle gate) ∧
    (t.host = s.host ∨ ∃ since, t.host = s.host.setRst l since) := by
  rcases driveReset_cases l s with ⟨rfl, since, hd, -⟩ | ⟨rfl, -, -, hd⟩ | ⟨rfl, since, -, -, -, hd⟩ |
    ⟨rfl, since, -, -, -, hd⟩ | ⟨rfl, -, hd⟩ <;> rw [hd] at h <;> cases h
  · exact ⟨rfl, .inr ⟨s.ctl.settleUntil, rfl⟩, .inr ⟨since, rfl⟩⟩
  · exact ⟨rfl, .inl rfl, .inl rfl⟩
  · exact ⟨rfl, .inr ⟨_, rfl⟩, .inr ⟨none, rfl⟩⟩
  · exact ⟨rfl, .inl rfl, .inr ⟨_, rfl⟩⟩

end Sys2Proof.Machine
end

section
/-! PROOFS. The invariants of 10_state.md: the parser and the cursor (R31, R34, R35), the reset line (R25, R41), the backlight
(R29), the parameters (R52). -/

namespace Sys2Proof.Machine

/-! ## The parser and the cursor -/

/-- An idle parser with nothing pending meets the parser's invariant. -/
theorem parserOk_of_idle {s : State} (hp : s.ctl.parser = .idle) (hq : s.ctl.pend = none) : ParserOk s where
  params := fun op args h => by simp [hp] at h
  pending := fun h => absurd hq h
  writing := fun h => by simp [hp] at h

theorem ParserOk.pend_eq_none {s : State} (h : ParserOk s) (hp : s.ctl.parser ≠ .memwrite) : s.ctl.pend = none :=
  Classical.byContradiction fun hq => hp (h.pending hq).1

theorem ParserOk.pend_of_params {s : State} (h : ParserOk s) {op : ParamCmd} {args : List Byte}
    (hp : s.ctl.parser = .params op args) : s.ctl.pend = none :=
  h.pend_eq_none (by simp [hp])

theorem ParserOk.pend_of_closed {s : State} (h : ParserOk s) (hc : FrameClosed s) : s.ctl.pend = none := by
  rcases hc with hp | ⟨-, hq⟩
  · exact h.pend_eq_none (by simp [hp])
  · exact hq

/-- An open parameter list that lacks a byte, with nothing pending, meets the parser's invariant. -/
theorem parserOk_of_params {s : State} {op : ParamCmd} {args : List Byte} (hp : s.ctl.parser = .params op args)
    (hl : args.length < op.nparams) (hq : s.ctl.pend = none) : ParserOk s where
  params := fun op' args' h => by
    obtain ⟨rfl, rfl⟩ := Parser.params.inj (hp.symm.trans h)
    exact hl
  pending := fun h => absurd hq h
  writing := fun h => by simp [hp] at h

/-- The cursor's advance stays inside the window (R116). -/
theorem advance_inside {xs xe ys ye cx cy : Half} (hx : xs.toNat ≤ cx.toNat ∧ cx.toNat ≤ xe.toNat)
    (hy : ys.toNat ≤ cy.toNat ∧ cy.toNat ≤ ye.toNat) (c : Controller) :
    ∃ cx' cy', (advance xs xe ye cx cy c).cx = some cx' ∧ (advance xs xe ye cx cy c).cy = some cy' ∧
      xs.toNat ≤ cx'.toNat ∧ cx'.toNat ≤ xe.toNat ∧ ys.toNat ≤ cy'.toNat ∧ cy'.toNat ≤ ye.toNat := by
  have succ : ∀ v w : Half, v.toNat < w.toNat → (v + 1).toNat = v.toNat + 1 := fun v w h => by
    have := w.isLt
    rw [BitVec.toNat_add, show (1 : Half).toNat = 1 from rfl]
    omega
  unfold advance
  split_ifs with hcx hcy
  · have := succ cx xe hcx
    exact ⟨cx + 1, cy, rfl, rfl, by omega⟩
  · have := succ cy ye hcy
    exact ⟨xs, cy + 1, rfl, rfl, by omega⟩
  · exact ⟨xs, cy, rfl, rfl, by omega⟩

/-- A memory write opens at its window's first cell (R114). -/
theorem parserOk_openWrite {s : State} {xs xe ys ye : Half} (hxs : s.ctl.xs = some xs) (hxe : s.ctl.xe = some xe)
    (hys : s.ctl.ys = some ys) (hye : s.ctl.ye = some ye) (legal : windowLegal s.cfg xs xe ys ye = true)
    (format : formatSet s = true) (awake : s.ctl.sleepOut = some true) : ParserOk (s.setCtl (openWrite xs ys s.ctl)) where
  params := fun op args h => by cases h
  pending := fun h => absurd rfl h
  writing := fun _ => by
    have := legal
    simp only [windowLegal, Bool.and_eq_true, decide_eq_true_eq] at this
    exact ⟨format, awake, xs, xe, ys, ye, xs, ys, hxs, hxe, hys, hye, rfl, rfl, legal, by omega⟩

/-- A completed pixel leaves nothing pending and the cursor in its window (R115, R116). -/
theorem ParserOk.pixel {s : State} (hs : ParserOk s) {cx cy xs xe ye : Half} (hp : s.ctl.parser = .memwrite)
    (hcx : s.ctl.cx = some cx) (hcy : s.ctl.cy = some cy) (hxs : s.ctl.xs = some xs) (hxe : s.ctl.xe = some xe)
    (hye : s.ctl.ye = some ye) (m : Memory) :
    ParserOk (s.setCtl (advance xs xe ye cx cy ((s.ctl.setPend none).setFb m))) where
  params := fun op args h => by simp [hp] at h
  pending := fun h => absurd (by simp) h
  writing := fun _ => by
    obtain ⟨hf, hawake, xs, xe, ys, ye, cx, cy, hxs', hxe', hys, hye', hcx', hcy', legal, hx1, hx2, hy1, hy2⟩ :=
      hs.writing hp
    cases hxs.symm.trans hxs'
    cases hxe.symm.trans hxe'
    cases hye.symm.trans hye'
    cases hcx.symm.trans hcx'
    cases hcy.symm.trans hcy'
    obtain ⟨cx', cy', h1, h2, hin⟩ :=
      advance_inside ⟨hx1, hx2⟩ ⟨hy1, hy2⟩ ((s.ctl.setPend none).setFb m)
    refine ⟨?_, by simpa using hawake, xs, xe, ys, ye, cx', cy', by simpa using hxs, by simpa using hxe, by simpa using hys,
      by simpa using hye, h1, h2, legal, hin⟩
    simpa [formatSet] using hf

/-- An accepted word keeps the parser's invariant. -/
theorem WordEffect.parserOk {s : State} {c : Controller} (hs : ParserOk s) (h : WordEffect s c) :
    ParserOk (s.setCtl c) := by
  cases h with
  | keep => exact hs
  | close hc => exact parserOk_of_idle rfl (hs.pend_of_closed hc)
  | reset hc gate => exact parserOk_of_idle rfl rfl
  | mode hc c gate flag =>
    have hq : c.pend = s.ctl.pend := by
      simp only [List.mem_cons, List.not_mem_nil, or_false] at flag
      rcases flag with rfl | rfl | rfl | rfl <;> rfl
    exact parserOk_of_idle rfl (hq.trans (hs.pend_of_closed hc))
  | openParams hc op => exact parserOk_of_params rfl (by cases op <;> decide) (hs.pend_of_closed hc)
  | openWrite hc xs xe ys ye hxs hxe hys hye legal format awake =>
    exact parserOk_openWrite hxs hxe hys hye legal format awake
  | param op args hp b hl => exact parserOk_of_params rfl hl (hs.pend_of_params hp)
  | columns args hp b => exact parserOk_of_idle rfl (hs.pend_of_params hp)
  | rows args hp b => exact parserOk_of_idle rfl (hs.pend_of_params hp)
  | madctl args hp m => exact parserOk_of_idle rfl (hs.pend_of_params hp)
  | colmod args hp p => exact parserOk_of_idle rfl (hs.pend_of_params hp)
  | highByte b hp he hq => exact ⟨hs.params, fun _ => ⟨hp, he⟩, hs.writing⟩
  | pixel v l cx cy xs xe ye hp he hq hcx hcy hxs hxe hye hw hh => exact hs.pixel hp hcx hcy hxs hxe hye _

/-- The parser's invariant speaks of the controller and the parameters only. -/
theorem ParserOk.of_eq {s t : State} (h : ParserOk s) (hctl : t.ctl = s.ctl) (hcfg : t.cfg = s.cfg) : ParserOk t := by
  obtain ⟨h1, h2, h3⟩ := h
  constructor <;> simpa only [formatSet, hctl, hcfg]

/-- Settles O35, over the parts of a step: only an accepted word and the reset line touch the parser. -/
theorem stepKeepsParser : Obligations.StepKeepsParser := by
  intro s t hs h
  refine step_keeps_of_parts (P := ParserOk) (fun s t hb hs => hs.of_eq hb.ctl hb.cfg) (fun s d hs => hs.of_eq rfl rfl)
    (fun s c hs _ hw => hw.parserOk hs) ?_ (fun s d hs _ => hs.of_eq rfl rfl) hs h
  intro l s t hs hd
  obtain ⟨hcfg, hctl | ⟨gate, hctl⟩, -⟩ := driveReset_frame hd
  · exact hs.of_eq hctl hcfg
  · exact parserOk_of_idle (by simp [hctl]) (by simp [hctl])

/-! ## The reset line -/

/-- No word takes a controller back to the state before its first reset. -/
theorem WordEffect.parser_ne_unknown {s : State} {c : Controller} (h : WordEffect s c) (hs : s.ctl.parser ≠ .unknown) :
    c.parser ≠ .unknown := by
  cases h with
  | keep => exact hs
  | highByte => exact hs
  | pixel => simpa using hs
  | _ => exact Parser.noConfusion

theorem ResetLineOk.of_bookkeeping {s t : State} (h : ResetLineOk s) (hb : Bookkeeping s t) : ResetLineOk t := by
  obtain ⟨h1, h2, h3, h4⟩ := h
  constructor <;> simpa only [hb.ctl, hb.rstN, hb.rstLowSince, hb.now]

theorem ResetLineOk.tick {s : State} (h : ResetLineOk s) (d : Nat) : ResetLineOk (tick d s) where
  edge := h.edge
  past := fun t ht => Nat.le_add_right_of_le (h.past t ht)
  held := h.held
  powerOn := h.powerOn

/-- An accepted word finds the line not low and the controller reset (R98), and leaves both so. -/
theorem ResetLineOk.word {s : State} {c : Controller} (h : ResetLineOk s) (ha : Accepts s) (hw : WordEffect s c) :
    ResetLineOk (s.setCtl c) where
  edge := h.edge
  past := h.past
  held := fun hl => absurd hl ha.1
  powerOn := fun hp => absurd hp (hw.parser_ne_unknown ha.2.1)

/-- The edges of the line (R125): a falling edge is now or as it was, a rising one forgets it. -/
theorem ResetLineOk.driveReset {l : Level} {s t : State} (hs : ResetLineOk s) (hd : driveReset l s = .next t) :
    ResetLineOk t := by
  rcases driveReset_cases l s with ⟨rfl, since, h, hsince⟩ | ⟨rfl, -, -, h⟩ | ⟨rfl, since, -, -, -, h⟩ |
    ⟨rfl, since, -, -, -, h⟩ | ⟨rfl, hl, h⟩ <;> rw [h] at hd <;> cases hd
  · have known : since ≠ none ∧ ∀ t, since = some t → t ≤ s.host.now := by
      rcases hsince with ⟨hl, rfl⟩ | ⟨-, rfl⟩
      · exact ⟨hs.edge.1 hl, hs.past⟩
      · exact ⟨by simp, fun t ht => by cases ht; exact le_rfl⟩
    exact ⟨by simpa using known.1, known.2, fun _ => rfl, nofun⟩
  · exact hs.of_bookkeeping {}
  · exact ⟨by simp, nofun, nofun, nofun⟩
  · have unknown : s.host.rstLowSince = none := not_not.1 (mt hs.edge.2 hl)
    exact ⟨by simp [unknown], hs.past, nofun, hs.powerOn⟩

/-- Settles O36, over the parts of a step: a word that changes the controller is accepted, so the line is not low. -/
theorem stepKeepsResetLine : Obligations.StepKeepsResetLine := by
  intro s t hs h
  exact step_keeps_of_parts (P := ResetLineOk) (fun s t hb hs => hs.of_bookkeeping hb) (fun s d hs => hs.tick d)
    (fun s c hs ha hw => hs.word ha hw) (fun l s t hs hd => hs.driveReset hd)
    (fun s d hs _ => ⟨hs.edge, hs.past, hs.held, hs.powerOn⟩) hs h

/-! ## The operation in progress -/

/-- The operation's invariant speaks of the host side only. -/
theorem OperationOk.of_host {s t : State} (h : OperationOk s) (ht : t.host = s.host) : OperationOk t := by
  obtain ⟨h1, h2, h3, h4⟩ := h
  constructor <;> simpa only [ht]

theorem OperationOk.tick {s : State} (h : OperationOk s) (d : Nat) : OperationOk (tick d s) where
  idle := h.idle
  line := fun x hx => ⟨(h.line x hx).1, Nat.le_add_right_of_le (h.line x hx).2⟩
  outside := h.outside
  inside := h.inside

/-- While an operation runs, its invariant stays where the operation, the bring-up state and the bring-up steps to come
stay, and the control line is right. -/
theorem OperationOk.of_same {s t : State} (h : OperationOk s) (busy : s.host.op ≠ none) (hop : t.host.op = s.host.op)
    (hfsm : t.host.fsm = s.host.fsm) (hphases : phases t.host.tasks = phases s.host.tasks)
    (hline : ∀ x, t.host.xfer = some x → t.host.dc = some x.dc ∧ x.start ≤ t.host.now) : OperationOk t where
  idle := fun hn => absurd (hop.symm.trans hn) busy
  line := hline
  outside := by simpa only [hop, hfsm, hphases] using h.outside
  inside := by simpa only [hop, hfsm, hphases] using h.inside

theorem phases_fillPlan (c : Config) (x y w h : Int) (v : Half) : phases (fillPlan c x y w h v) = [] := by
  simp only [fillPlan]
  split <;> rfl

/-- Of the operations, only `bring_up` goes through bring-up steps. -/
theorem phases_of_plan {c : Config} {op : HostOp} {ts : List Task} (hop : op ≠ .bringUp) (h : plan c op = .ok ts) :
    phases ts = [] := by
  cases op with
  | bringUp => exact absurd rfl hop
  | drawPixel x y v =>
    cases h
    split <;> rfl
  | fillRect x y w h' v =>
    cases h
    exact phases_fillPlan c x y w h' v
  | fillScreen v =>
    cases h
    exact phases_fillPlan c 0 0 c.w c.h v
  | flush x1 y1 x2 y2 buf =>
    change flushPlan c x1 y1 x2 y2 buf = .ok ts at h
    unfold flushPlan at h
    split at h
    · cases h
    · split at h <;> cases h
      rfl
  | _ => cases h; rfl

/-- The steps of `bring_up` after the first, in order (R138). -/
theorem phases_bringUpTasks (c : Config) : phases (bringUpTasks c) = List.range' 2 8 := by
  unfold bringUpTasks
  split <;> rfl

/-- A start leaves the host idle with a fault, or the operation in progress with its steps (R137, R147). -/
theorem OperationOk.startOp {op : HostOp} {s t : State} (hs : OperationOk s) (hidle : s.host.op = none)
    (h : startOp op s = .next t) : OperationOk t := by
  have noXfer : ∀ x, s.host.xfer ≠ some x := by simp [(hs.idle hidle).2]
  obtain ⟨hphases, hfsm⟩ := hs.outside (by simp [hidle])
  rcases startOp_cases op s with ⟨f, hc⟩ | ⟨hop, f, hc⟩ | ⟨hop, ts, hts, hc⟩ | ⟨rfl, -, hc⟩ | ⟨-, k, -, hc⟩ <;>
    rw [hc] at h <;> cases h
  · exact hs.of_host rfl
  · exact ⟨nofun, fun x hx => absurd hx (noXfer x), fun _ => ⟨hphases, hfsm⟩,
      fun hb => absurd (Option.some.inj hb) hop⟩
  · exact ⟨nofun, fun x hx => absurd hx (noXfer x), fun _ => ⟨phases_of_plan hop hts, hfsm⟩,
      fun hb => absurd (Option.some.inj hb) hop⟩
  · exact ⟨nofun, fun x hx => absurd hx (noXfer x), fun hb => absurd rfl hb,
      fun _ => ⟨1, rfl, by omega, by omega, phases_bringUpTasks s.cfg⟩⟩

/-- A return leaves no bring-up step in progress (R137). -/
theorem finalFsm_ne_bringup {op : HostOp} {e : Option BusError} {f : Fsm} (h : op ≠ .bringUp → ∀ k, f ≠ .bringup k)
    (k : Nat) : finalFsm op e f ≠ .bringup k := by
  unfold finalFsm
  split
  · exact Fsm.noConfusion
  · exact Fsm.noConfusion
  · rename_i h1 h2
    refine h (fun hop => ?_) k
    cases e with
    | none => exact h1 hop rfl
    | some e => exact h2 e hop rfl

theorem OperationOk.finishOp {op : HostOp} {s : State} (hs : OperationOk s) (hop : s.host.op = some op)
    (e : Option BusError) : OperationOk (finishOp op e s) := by
  have hfsm := finalFsm_ne_bringup (e := e) fun hne => (hs.outside (by simpa [hop] using hne)).2
  constructor <;> simp only [finishOp_host]
  · exact fun _ => ⟨rfl, rfl⟩
  · exact nofun
  · exact fun _ => ⟨rfl, hfsm⟩
  · exact nofun

/-- The bring-up step to come becomes the one in progress (R138). -/
theorem OperationOk.phase {s : State} {n : Nat} {rest : List Task} (hs : OperationOk s) (hx : s.host.xfer = none)
    (htasks : s.host.tasks = .phase n :: rest) :
    OperationOk (s.setHost ((s.host.setTasks rest).setFsm (.bringup n))) := by
  have hphases : phases s.host.tasks = n :: phases rest := by rw [htasks, phases]
  have bringsUp : s.host.op = some .bringUp := Classical.byContradiction fun hne => by
    simp [(hs.outside hne).1] at hphases
  obtain ⟨k, -, hk1, hk9, hk⟩ := hs.inside bringsUp
  obtain ⟨m, hm⟩ : ∃ m, 9 - k = m + 1 := Nat.exists_eq_succ_of_ne_zero fun h0 => by simp [hphases, h0] at hk
  rw [hphases, hm, List.range'_succ] at hk
  obtain ⟨rfl, hrest⟩ := List.cons.inj hk
  exact ⟨fun hn => by simp [bringsUp] at hn, fun x hx' => by simp [hx] at hx', fun hne => absurd bringsUp hne,
    fun _ => ⟨k + 1, rfl, by omega, by omega, by rw [show 9 - (k + 1) = m by omega]; exact hrest⟩⟩

/-- A task other than a bring-up step leaves the bring-up where it is, and begins a transaction only at the level it sets. -/
theorem OperationOk.task {s t : State} {k : Task} {rest : List Task} (hs : OperationOk s) (busy : s.host.op ≠ none)
    (htasks : s.host.tasks = k :: rest) (hk : ∀ n, k ≠ .phase n)
    (h : TaskEffect (s.setHost (s.host.setTasks rest)) k t) : OperationOk t := by
  have popped : OperationOk (s.setHost (s.host.setTasks rest)) :=
    hs.of_same busy rfl rfl (by rw [htasks, phases_cons_of_ne hk]; rfl) hs.line
  have hline : ∀ x, s.host.xfer = some x → s.host.dc = some x.dc ∧ x.start ≤ s.host.now := hs.line
  cases h with
  | fault k f => exact popped.of_host rfl
  | transfer k dc bytes =>
    exact popped.of_same busy rfl rfl rfl fun x hx => by
      obtain rfl := Option.some.inj hx
      exact ⟨rfl, le_rfl⟩
  | push k ts wake hts => exact popped.of_same busy rfl rfl (by simp [hts]) hline
  | line l t hd =>
    obtain ⟨-, -, hh | ⟨since, hh⟩⟩ := driveReset_frame hd
    · exact popped.of_host hh
    · exact popped.of_same busy (by simp [hh]) (by simp [hh]) (by simp [hh]) (by simpa [hh] using hline)
  | phase n => exact absurd rfl (hk n)
  | duty k d hd => exact popped.of_same busy rfl rfl rfl hline

/-- One step of the operation in progress keeps its invariant. -/
theorem OperationOk.opStep {op : HostOp} {s t : State} (hs : OperationOk s) (hop : s.host.op = some op)
    (h : opStep op s = .next t) : OperationOk t := by
  have busy : s.host.op ≠ none := by simp [hop]
  rcases opStep_cases h with ⟨x, b, hx, hd⟩ | rfl | ⟨e, rfl⟩ | ⟨k, rest, hx, htasks, hk⟩
  · have taken : OperationOk (takeWord x s) := hs.of_same busy rfl rfl rfl fun y hy => by
      obtain rfl := Option.some.inj hy
      exact hs.line x hx
    exact taken.of_host hd.host
  · exact hs.of_same busy rfl rfl rfl fun x hx => by cases hx
  · exact hs.finishOp hop e
  · by_cases hphase : ∃ n, k = .phase n
    · obtain ⟨n, rfl⟩ := hphase
      cases hk
      exact hs.phase hx htasks
    · exact hs.task busy htasks (fun n hn => hphase ⟨n, hn⟩) (runTask_effect hk)

/-- Settles O37, over the parts of a step: a start, a return, a bring-up step, and any other step of the operation. -/
theorem stepKeepsOperation : Obligations.StepKeepsOperation := by
  intro s t hs h
  exact step_keeps (P := OperationOk) (fun s e hs => hs.of_host rfl) (fun s d hs => hs.tick d)
    (fun s f hs => hs.of_host rfl) (fun s op t hop _ hs hstep => hs.opStep hop hstep)
    (fun s op t hop hs hstart => hs.startOp hop hstart) hs h

/-! ## The parameters and the backlight -/

/-- Settles O29, over the parts of a step. -/
theorem configurationIsNeverWritten : Obligations.ConfigurationIsNeverWritten := by
  intro s t h
  exact step_keeps_of_parts (P := fun u => u.cfg = s.cfg) (fun u v hb hu => hb.cfg.trans hu) (fun u d hu => hu)
    (fun u c hu _ _ => hu) (fun l u v hu hd => (driveReset_frame hd).1.trans hu) (fun u d hu _ => hu) rfl h

/-- The backlight's invariant speaks of the channel and the parameters only. -/
theorem BacklightOk.of_eq {s t : State} (h : BacklightOk s) (hcfg : t.cfg = s.cfg) (hbl : t.host.blCfg = s.host.blCfg)
    (hduty : t.host.blDuty = s.host.blDuty) : BacklightOk t := by
  obtain ⟨h1, h2⟩ := h
  constructor <;> simpa only [hcfg, hbl, hduty]

/-- Settles O38, over the parts of a step: a duty is committed on a configured channel and within `DUTY_MAX`. -/
theorem stepKeepsBacklight : Obligations.StepKeepsBacklight := by
  intro s t hs h
  refine step_keeps_of_parts (P := BacklightOk) (fun s t hb hs => hs.of_eq hb.cfg hb.blCfg hb.blDuty)
    (fun s d hs => hs.of_eq rfl rfl rfl) (fun s c hs _ _ => hs.of_eq rfl rfl rfl) ?_ ?_ hs h
  · intro l s t hs hd
    obtain ⟨hcfg, -, hh | ⟨since, hh⟩⟩ := driveReset_frame hd <;> exact hs.of_eq hcfg (by simp [hh]) (by simp [hh])
  · intro s d _ hd
    exact ⟨by simp [pwmCommit, HostSide.setBlCfg, HostSide.setDuty], fun d' h' => by cases h'; exact hd⟩

/-! ## Power-on -/

/-- The parameters of the power-on state are well formed, whatever the OPEN ones are (R9). -/
theorem machine_wf : Config.machine.wf = true := by
  simp [Config.wf, Config.machine]

/-- Settles O33: nothing is open, listed, committed or recorded at power-on. -/
theorem powerOnMeetsInvariants : Obligations.PowerOnMeetsInvariants := by
  refine ⟨⟨reset_wf, nofun, fun k => rfl⟩, ?_, ?_, ?_, ?_, ?_, Nat.zero_le 1, machine_wf⟩
  · exact ⟨nofun, fun h => absurd rfl h, nofun⟩
  · exact ⟨by decide, nofun, nofun, fun _ => rfl⟩
  · exact ⟨fun _ => ⟨rfl, rfl⟩, nofun, fun _ => ⟨rfl, nofun⟩, nofun⟩
  · exact ⟨by decide, nofun⟩
  · exact ⟨.nil, nofun, .nil, nofun⟩

end Sys2Proof.Machine
end

section
/-! PROOFS. The frame memory (R55, R56, R61) and what the controller can tell of a delivered word (R71). -/

namespace Sys2Proof.Machine

/-! ## The frame memory -/

/-- The bytes of a written memory: the two of the cell, and those that were there. -/
theorem mem_fbWrite {c : Config} {m : Memory} {x y : Nat} {v : Half} {p : Host.Cell} (h : p ∈ fbWrite c m x y v) :
    p.1 = cellAddr c x y ∨ p.1 = cellAddr c x y + 1 ∨ p ∈ m := by
  rcases mem_memWrite h with rfl | h
  · exact .inr (.inl rfl)
  · rcases mem_memWrite h with rfl | h
    · exact .inl rfl
    · exact .inr (.inr h)

/-- The frame memory's invariant speaks of the memory and the parameters only. -/
theorem FrameMemoryOk.of_eq {s t : State} (h : FrameMemoryOk s) (hfb : t.ctl.fb = s.ctl.fb) (hcfg : t.cfg = s.cfg) :
    FrameMemoryOk t := by
  obtain ⟨h1, h2, h3⟩ := h
  constructor <;> simpa only [hfb, hcfg]

/-- A memory with nothing written meets the invariant (R48). -/
theorem frameMemoryOk_of_empty {s : State} (h : s.ctl.fb = []) : FrameMemoryOk s := by
  constructor <;> simp [h]

/-- Writing a cell of the display keeps the invariant: its two bytes are written together (R57). -/
theorem FrameMemoryOk.of_fbWrite {s t : State} (h : FrameMemoryOk s) (hcfg : t.cfg = s.cfg) {x y : Nat} {v : Half}
    (hx : x < s.cfg.w) (hy : y < s.cfg.h) (hfb : t.ctl.fb = fbWrite s.cfg s.ctl.fb x y v) : FrameMemoryOk t where
  canonical := hfb ▸ fbWrite_wf s.cfg x y v h.canonical
  inside := fun p hp => by
    have hlt := cellAddr_lt hx hy
    rw [hfb] at hp
    rw [hcfg]
    rcases mem_fbWrite hp with hp | hp | hp
    · omega
    · omega
    · exact h.inside p hp
  whole := fun k => by
    rw [hfb]
    by_cases hk : 2 * k = cellAddr s.cfg x y
    · rw [hk, memRead_fbWrite_high, memRead_fbWrite_low]
      rfl
    · have even : cellAddr s.cfg x y % 2 = 0 := Nat.mul_mod_right 2 _
      rw [memRead_fbWrite_ne v hk (by omega), memRead_fbWrite_ne v (by omega) (by omega)]
      exact h.whole k

/-- What an accepted word can make of the frame memory: it stays, is emptied, or one cell of the display is written. -/
theorem WordEffect.fb {s : State} {c : Controller} (h : WordEffect s c) :
    c.fb = s.ctl.fb ∨ c.fb = [] ∨
    ∃ x y v, x < s.cfg.w ∧ y < s.cfg.h ∧ c.fb = fbWrite s.cfg s.ctl.fb x y v := by
  cases h with
  | reset => exact .inr (.inl rfl)
  | mode closed c gate flag =>
    simp only [List.mem_cons, List.not_mem_nil, or_false] at flag
    rcases flag with rfl | rfl | rfl | rfl <;> exact .inl rfl
  | pixel h l cx cy xs xe ye _ _ _ _ _ _ _ _ inW inH =>
    exact .inr (.inr ⟨_, _, join16 h l, inW, inH, advance_fb xs xe ye cx cy _⟩)
  | _ => exact .inl rfl

/-- Settles O34, over the parts of a step: only an accepted word and the reset line touch the frame memory. -/
theorem stepKeepsFrameMemory : Obligations.StepKeepsFrameMemory := by
  intro s t hs h
  refine step_keeps_of_parts (P := FrameMemoryOk) (fun s t hb hs => hs.of_eq (by rw [hb.ctl]) hb.cfg)
    (fun s d hs => hs.of_eq rfl rfl) ?_ ?_ (fun s d hs _ => hs.of_eq rfl rfl) hs h
  · intro s c hs _ hw
    rcases hw.fb with hfb | hfb | ⟨x, y, v, hx, hy, hfb⟩
    · exact hs.of_eq hfb rfl
    · exact frameMemoryOk_of_empty hfb
    · exact hs.of_fbWrite rfl hx hy hfb
  · intro l s t hs hd
    obtain ⟨hcfg, hctl | ⟨gate, hctl⟩, -⟩ := driveReset_frame hd
    · exact hs.of_eq (by rw [hctl]) hcfg
    · exact frameMemoryOk_of_empty (by simp [hctl])

/-! ## What the controller can tell of a word -/

/-- `s` and `u` agree on all that a word's meaning may read: the controller, the parameters, the clock, the reset line and
the faults. They may differ in the operation, the transaction and its number, the inputs and the trace (R71). -/
structure Alike (s u : State) : Prop where
  ctl : s.ctl = u.ctl
  cfg : s.cfg = u.cfg
  now : s.host.now = u.host.now
  rstN : s.host.rstN = u.host.rstN
  faults : s.faults = u.faults

/-- Two outcomes the controller cannot tell apart: states that are alike, or the same stop. -/
inductive SameOutcome : Result → Result → Prop where
  | next {a b : State} (h : Alike a b) : SameOutcome (.next a) (.next b)
  | fault (f : Fault) : SameOutcome (.fault f) (.fault f)

/-- What a meaning makes of alike states, the controller cannot tell apart. -/
def Respects (body : State → Result) : Prop := ∀ s u, Alike s u → SameOutcome (body s) (body u)

theorem Alike.setCtl {s u : State} (h : Alike s u) (c : Controller) : Alike (s.setCtl c) (u.setCtl c) :=
  ⟨rfl, h.cfg, h.now, h.rstN, h.faults⟩

/-- The trace entries may differ: the transaction's number is in them (R30). -/
theorem Alike.logWord {s u : State} (h : Alike s u) (w : BusWord) : Alike (logWord w s) (logWord w u) :=
  ⟨h.ctl, h.cfg, h.now, h.rstN, h.faults⟩

theorem Alike.next_setCtl {s u : State} (h : Alike s u) (c : Controller) :
    SameOutcome (.next (s.setCtl c)) (.next (u.setCtl c)) :=
  .next (h.setCtl c)

theorem Alike.raise {s u : State} (h : Alike s u) (f : Raised) : SameOutcome (raise f s) (raise f u) :=
  .next ⟨h.ctl, h.cfg, h.now, h.rstN, congrArg (insertFault · f) h.faults⟩

theorem Alike.closeStream {s u : State} (h : Alike s u) : Alike (closeStream s) (closeStream u) := by
  rw [Machine.closeStream, Machine.closeStream, h.ctl]
  exact h.setCtl _

/-! ### The parts of a delivery -/

section
variable {body : State → Result} (respects : Respects body) (w : BusWord)
include respects

/-- The delivery checks read the reset line, the parser, the clock and the gate (R98). -/
theorem respects_deliver : Respects (deliver w body) := by
  intro s u h
  have logged := h.logWord w
  simp only [deliver, h.ctl, h.now, h.rstN]
  split_ifs
  · exact logged.raise _
  · exact logged.raise _
  · exact logged.raise _
  · exact respects _ _ logged

/-- The frame check reads the controller (R99). -/
theorem respects_closeFrame : Respects (closeFrame w body) := by
  intro s u h
  have closed := respects _ _ h.closeStream
  simp only [closeFrame, h.ctl]
  split
  · exact h.raise _
  · exact h.raise _
  · split_ifs
    · exact h.raise _
    · exact closed
  · exact closed

theorem respects_commandWord (i : Instr) : Respects (commandWord i body) :=
  respects_deliver (respects_closeFrame respects _) _

end

/-! ### The meanings of the words -/

/-- Opening a parameter list (R111, R113, R132, R133). -/
theorem respects_openParams (op : ParamCmd) : Respects (openParams op) := fun s u h => by
  simpa only [openParams, h.ctl] using h.next_setCtl _

/-- A mode command, whose gate is counted from the clock (R131, R134 to R136). -/
theorem respects_modeEffect (flag : Controller → Controller) (wait : Config → Nat) :
    Respects (fun t => .next (modeEffect (flag t.ctl) (t.host.now + wait t.cfg) t)) := fun s u h => by
  simpa only [modeEffect, h.ctl, h.cfg, h.now] using h.next_setCtl _

/-- SWRESET's reset (R130). -/
theorem respects_swreset :
    Respects (fun t => .next (t.setCtl (t.ctl.toReset.setSettle (t.host.now + t.cfg.tSwreset)))) := fun s u h => by
  simpa only [h.ctl, h.cfg, h.now] using h.next_setCtl _

theorem respects_ramwrEffect : Respects ramwrEffect := by
  intro s u h
  simp only [ramwrEffect, h.ctl, h.cfg]
  split
  · split_ifs
    · exact h.raise _
    · exact h.raise _
    · exact h.raise _
    · exact h.next_setCtl _
  · exact h.raise _

theorem respects_commitParams (op : ParamCmd) (args : List Byte) : Respects (commitParams op args) := by
  intro s u h
  simp only [commitParams, h.ctl]
  split
  · exact h.next_setCtl _
  · exact h.next_setCtl _
  · exact h.next_setCtl _
  · exact h.next_setCtl _
  · exact .fault _

theorem respects_pixelLow (hi lo : Byte) : Respects (pixelLow hi lo) := by
  intro s u h
  simp only [pixelLow, h.ctl, h.cfg]
  split
  · split_ifs
    · exact h.next_setCtl _
    · exact .fault _
  · exact .fault _

/-- A data word goes where the parser stands (R100, R101, R115). -/
theorem respects_dataWord (b : Byte) : Respects (dataWord b) := by
  intro s u h
  simp only [dataWord, paramByte, pixelByte, h.ctl]
  split
  · exact h.raise _
  · exact h.raise _
  · split_ifs
    · exact h.next_setCtl _
    · exact respects_commitParams _ _ _ _ (h.setCtl _)
  · split_ifs
    · exact h.raise _
    · split
      · exact h.next_setCtl _
      · exact respects_pixelLow _ b s u h

theorem respects_exec (i : Instr) : Respects (exec i) := by
  cases i with
  | swreset => exact respects_commandWord respects_swreset _
  | slpout => exact respects_commandWord (respects_modeEffect .setSleepOut Config.tSlpout) _
  | noron => exact respects_commandWord (respects_modeEffect .setNormalOn Config.tNoron) _
  | invon => exact respects_commandWord (respects_modeEffect .setInvOn Config.tInvon) _
  | dispon => exact respects_commandWord (respects_modeEffect .setDispOn Config.tDispon) _
  | caset => exact respects_commandWord (respects_openParams _) _
  | raset => exact respects_commandWord (respects_openParams _) _
  | madctl => exact respects_commandWord (respects_openParams _) _
  | colmod => exact respects_commandWord (respects_openParams _) _
  | ramwr => exact respects_commandWord respects_ramwrEffect _
  | data b => exact respects_deliver (respects_dataWord b) _

/-- The verdict of the decoder is the word's alone (R85, R88), so every bus word has alike outcomes in alike states. -/
theorem respects_deliverWord (w : BusWord) : Respects (deliverWord w) := by
  intro s u h
  unfold deliverWord
  split
  · exact respects_exec _ s u h
  · exact respects_deliver (respects_closeFrame (fun _ _ h' => h'.raise _) _) _ s u h

/-- Settles O24: the words' meanings read nothing but what alike states agree on. -/
theorem transactionsAreInvisible : Obligations.TransactionsAreInvisible := by
  intro w s u hctl hcfg hnow hrstN hfaults
  have same := respects_deliverWord w s u ⟨hctl, hcfg, hnow, hrstN, hfaults⟩
  generalize deliverWord w s = r, deliverWord w u = q at same
  cases same with
  | next h => exact ⟨h.ctl, h.faults⟩
  | fault f => rfl

end Sys2Proof.Machine
end

section
/-! PROOFS. Decoding and encoding: a bus word and its instruction (R84, R88), a command frame and its words (R75, R76). -/

namespace Sys2Proof

/-! ## One word -/

/-- Each instruction's word is read as that instruction (R84). -/
@[simp] theorem decode_encode (i : Instr) : decode (encode i) = .known i := by
  cases i with
  | data b => exact decode_encode_data b
  | _ => rfl

theorem decode_eq_known_iff {w : BusWord} {i : Instr} : decode w = .known i ↔ encode i = w :=
  ⟨encode_of_decode, fun h => h ▸ decode_encode i⟩

/-- Settles O3: `encode_of_decode` and `decode_encode` are its two directions. -/
theorem decodeIsInverseOfEncode : Obligations.DecodeIsInverseOfEncode :=
  fun _ _ => decode_eq_known_iff

/-- The command words of the table have the ten bytes of R84. -/
theorem wordByte_encode_mem {i : Instr} (command : wordDc (encode i) = false) :
    wordByte (encode i) ∈ [0x01#8, 0x11#8, 0x13#8, 0x21#8, 0x29#8, 0x2A#8, 0x2B#8, 0x2C#8, 0x36#8, 0x3A#8] := by
  cases i with
  | data b => simp at command
  | _ => decide

/-- Settles O1: each word written out is the word that encodes its instruction. -/
theorem tableWordsDecode : Obligations.TableWordsDecode :=
  ⟨decode_encode .swreset, decode_encode .slpout, decode_encode .noron, decode_encode .invon, decode_encode .dispon,
    decode_encode .caset, decode_encode .raset, decode_encode .ramwr, decode_encode .madctl, decode_encode .colmod,
    decode_encode (.data 0x55), rfl, rfl, rfl⟩

/-- Settles O2: a command word that is read as an instruction is that instruction's word, and so has one of the ten bytes. -/
theorem exactlyTenCommandBytes : Obligations.ExactlyTenCommandBytes := by
  refine ⟨decode_encode_data, decode_encode .swreset, decode_encode .slpout, decode_encode .noron,
    decode_encode .invon, decode_encode .dispon, decode_encode .caset, decode_encode .raset, decode_encode .ramwr,
    decode_encode .madctl, decode_encode .colmod, fun b notListed => ?_, busWord_parts⟩
  cases h : decode (busWord false b) with
  | known i =>
    have word : encode i = busWord false b := encode_of_decode h
    have listed := wordByte_encode_mem (i := i) (by simp [word])
    rw [word, wordByte_busWord] at listed
    exact absurd listed notListed
  | unknown b' =>
    have same : b = b' := by simpa using congrArg wordByte (word_of_decode_unknown h)
    rw [same]

/-! ## The data words at the front of a list -/

theorem busWord_true_wordByte {w : BusWord} (h : wordDc w = true) : busWord true (wordByte w) = w := by
  rw [← h, busWord_parts]

/-- The parameters of a command are read back from their data words, whatever follows. -/
theorem takeParams_map_append (bytes : List Byte) (rest : List BusWord) :
    takeParams bytes.length (bytes.map (busWord true) ++ rest) = (bytes, rest) := by
  induction bytes with
  | nil => rfl
  | cons b bytes ih => simp [takeParams, ih]

/-- A pixel stream is read back from its data words when a command word, or no word, follows. -/
theorem takeData_map_append {rest : List BusWord} (command : ∀ w, rest.head? = some w → wordDc w = false)
    (bytes : List Byte) : takeData (bytes.map (busWord true) ++ rest) = (bytes, rest) := by
  induction bytes with
  | nil =>
    cases rest with
    | nil => rfl
    | cons w rest => simp [takeData, command w rfl]
  | cons b bytes ih => simp [takeData, ih]

/-- The bytes taken as parameters and the words left are the words there were. -/
theorem map_takeParams_append (n : Nat) (ws : List BusWord) :
    (takeParams n ws).1.map (busWord true) ++ (takeParams n ws).2 = ws := by
  induction n generalizing ws with
  | zero => rfl
  | succ n ih =>
    cases ws with
    | nil => rfl
    | cons w ws =>
      by_cases h : wordDc w = true
      · simp [takeParams, h, ih, busWord_true_wordByte]
      · simp [takeParams, h]

/-- The bytes taken as a stream and the words left are the words there were. -/
theorem map_takeData_append (ws : List BusWord) : (takeData ws).1.map (busWord true) ++ (takeData ws).2 = ws := by
  induction ws with
  | nil => rfl
  | cons w ws ih =>
    by_cases h : wordDc w = true
    · simp [takeData, h, ih, busWord_true_wordByte]
    · simp [takeData, h]

/-! ## A frame -/

/-- What `decodeFrame` reads after the command word of an instruction with this payload shape (R76). -/
def takePayload : PayloadShape → List BusWord → List Byte × List BusWord
  | .bytes n, ws => takeParams n ws
  | .stream, ws => takeData ws
  | .notCommand, ws => ([], ws)

theorem map_takePayload_append (shape : PayloadShape) (ws : List BusWord) :
    (takePayload shape ws).1.map (busWord true) ++ (takePayload shape ws).2 = ws := by
  cases shape with
  | bytes n => exact map_takeParams_append n ws
  | stream => exact map_takeData_append ws
  | notCommand => rfl

/-- The payload of a well-formed frame is read back from its data words. -/
theorem takePayload_map_append {f : Frame} {rest : List BusWord} (wf : f.wf = true)
    (command : f.cmd.payloadShape = .stream → ∀ w, rest.head? = some w → wordDc w = false) :
    takePayload f.cmd.payloadShape (f.payload.map (busWord true) ++ rest) = (f.payload, rest) := by
  unfold Frame.wf at wf
  cases shape : f.cmd.payloadShape with
  | bytes n =>
    have length : f.payload.length = n := by simpa [shape] using wf
    exact length ▸ takeParams_map_append f.payload rest
  | stream => exact takeData_map_append (command shape) f.payload
  | notCommand => simp [shape] at wf

/-- A list is read as a frame exactly when its first word is the frame's command word, the words after it give the
frame's payload, and the frame is well formed (R75, R76). -/
theorem decodeFrame_cons_eq_ok_iff {w : BusWord} {ws rest : List BusWord} {f : Frame} :
    decodeFrame (w :: ws) = .ok (f, rest) ↔
      decode w = .known f.cmd ∧ takePayload f.cmd.payloadShape ws = (f.payload, rest) ∧ f.wf = true := by
  obtain ⟨cmd, payload⟩ := f
  cases known : decode w with
  | unknown b => simp [decodeFrame, known]
  | known i =>
    cases shape : i.payloadShape with
    | notCommand => grind [decodeFrame, Frame.wf]
    | bytes n => grind [decodeFrame, Frame.wf, takePayload]
    | stream => grind [decodeFrame, Frame.wf, takePayload]

/-- Settles O4: the command word is read as the command, the data words after it as the payload. -/
theorem frameReadsBack : Obligations.FrameReadsBack := fun f _ wf command =>
  decodeFrame_cons_eq_ok_iff.mpr ⟨decode_encode f.cmd, takePayload_map_append wf command, wf⟩

/-- Settles O5: the first word is the command's, and the words read as payload are its data words. -/
theorem frameDecodeIsExact : Obligations.FrameDecodeIsExact := by
  intro ws f rest h
  cases ws with
  | nil => cases h
  | cons w ws =>
    obtain ⟨known, payload, wf⟩ := decodeFrame_cons_eq_ok_iff.mp h
    have words := map_takePayload_append f.cmd.payloadShape ws
    rw [payload] at words
    exact ⟨wf, congrArg₂ List.cons (encode_of_decode known) words⟩

end Sys2Proof
end

section
/-! PROOFS. The trace (R30, R183): in order of time, and the words of one transaction together and at one level (R94, R95,
R110). -/

namespace Sys2Proof.Machine

/-! ## What keeps the trace's invariant -/

/-- The trace's invariant stays where the trace stays, the clock does not go back, and the transaction is a later one or the
same at the same level. -/
theorem TraceOk.of_trace_eq {s t : State} (h : TraceOk s) (trace : t.trace = s.trace) (now : s.host.now ≤ t.host.now)
    (line : s.host.txn < t.host.txn ∨ (t.host.txn = s.host.txn ∧ t.host.dc = s.host.dc)) : TraceOk t where
  ordered := trace ▸ h.ordered
  past := fun e he => (h.past e (trace ▸ he)).trans now
  numbered := trace ▸ h.numbered
  numberedPast := fun time dc b n hn => by
    have old := h.numberedPast time dc b n (trace ▸ hn)
    rcases line with later | ⟨htxn, hdc⟩
    · omega
    · rwa [htxn, hdc]

/-- The same for an update that touches none of the four (by computation: `h.of_same`). -/
theorem TraceOk.of_same {s t : State} (h : TraceOk s) (trace : t.trace = s.trace := by rfl)
    (now : t.host.now = s.host.now := by rfl) (txn : t.host.txn = s.host.txn := by rfl)
    (dc : t.host.dc = s.host.dc := by rfl) : TraceOk t :=
  h.of_trace_eq trace now.ge (.inr ⟨txn, dc⟩)

/-- The trace's invariant takes an event of now; a word must be at the line's level, under the transaction's number. -/
theorem TraceOk.addEvent {s : State} {e : Event} (h : TraceOk s) (now : e.time = s.host.now)
    (word : ∀ t dc b n, e = .word t dc b n → n = s.host.txn ∧ s.host.dc = some dc) : TraceOk (s.addEvent e) where
  ordered := List.pairwise_append.mpr ⟨h.ordered, List.pairwise_singleton _ e, fun f hf g hg => by
    obtain rfl := List.mem_singleton.mp hg
    exact now ▸ h.past f hf⟩
  past := fun f hf => by
    rcases List.mem_append.mp hf with hf | hf
    · exact h.past f hf
    · exact (List.mem_singleton.mp hf ▸ now).le
  numbered := List.pairwise_append.mpr ⟨h.numbered, List.pairwise_singleton _ e, fun f hf g hg => by
    obtain rfl := List.mem_singleton.mp hg
    cases g with
    | word t dc b n =>
      obtain ⟨rfl, hdc⟩ := word t dc b n rfl
      cases f with
      | word t' dc' b' m => simpa [hdc, eq_comm] using h.numberedPast t' dc' b' m hf
      | _ => trivial
    | _ => cases f <;> trivial⟩
  numberedPast := fun t dc b n hn => by
    rcases List.mem_append.mp hn with hn | hn
    · exact h.numberedPast t dc b n hn
    · exact .inr (word t dc b n (List.mem_singleton.mp hn).symm)

/-- An event that is no word of the bus. -/
theorem TraceOk.addOther {s : State} {e : Event} (h : TraceOk s) (now : e.time = s.host.now) (other : e.isWord = false) :
    TraceOk (s.addEvent e) :=
  h.addEvent now fun t dc b n he => by simp [he, Event.isWord] at other

/-! ## The parts of a step -/

/-- A delivered word stands in the trace under the transaction in progress, at the line's level (R94, R98). -/
theorem TraceOk.delivered {w : BusWord} {s t : State} (h : TraceOk s) (level : s.host.dc = some (wordDc w))
    (hd : Delivered w s t) : TraceOk t := by
  have logged : TraceOk (logWord w s) := h.addEvent rfl fun time dc b n he => by
    cases he
    exact ⟨rfl, level⟩
  obtain ⟨c, -, rfl | ⟨f, rfl⟩⟩ := hd <;> exact logged.of_same

/-- Driving the reset line records its edge (R125). -/
theorem TraceOk.driveReset {l : Level} {s t : State} (h : TraceOk s) (hd : driveReset l s = .next t) : TraceOk t := by
  have edge : TraceOk (s.addEvent (.resetEdge s.host.now l)) := h.addOther rfl rfl
  rcases driveReset_cases l s with ⟨-, since, hc, -⟩ | ⟨-, -, -, hc⟩ | ⟨-, since, -, -, -, hc⟩ |
    ⟨-, since, -, -, -, hc⟩ | ⟨-, -, hc⟩ <;> rw [hc] at hd <;> cases hd <;>
    exact edge.of_same

/-- A return adds at most the completion signal (R157). -/
theorem TraceOk.finishOp {s : State} (h : TraceOk s) (op : HostOp) (e : Option BusError) : TraceOk (finishOp op e s) := by
  have signalled : TraceOk (signalReturn op e s) := by
    rcases signalReturn_cases op e s with hs | hs <;> rw [hs]
    · exact h
    · exact h.addOther rfl rfl
  exact signalled.of_same

/-- A transaction that begins has a later number (R95); a task sends no word of its own. -/
theorem TraceOk.task {k : Task} {s t : State} (h : TraceOk s) (ht : TaskEffect s k t) : TraceOk t := by
  cases ht with
  | transfer k dc bytes => exact h.of_trace_eq rfl le_rfl (.inl (Nat.lt_succ_self _))
  | line l t hd => exact h.driveReset hd
  | duty k d hd =>
    have configured : TraceOk (s.setHost (s.host.setBlCfg.setDuty d)) := h.of_same
    exact configured.addOther rfl rfl
  | _ => exact h.of_same

/-- A start records nothing (R93, R147). -/
theorem TraceOk.startOp {op : HostOp} {s t : State} (h : TraceOk s) (hs : startOp op s = .next t) : TraceOk t := by
  rcases startOp_cases op s with ⟨f, hc⟩ | ⟨-, f, hc⟩ | ⟨-, ts, -, hc⟩ | ⟨-, -, hc⟩ | ⟨-, k, -, hc⟩ <;>
    rw [hc] at hs <;> cases hs <;> exact h.of_same

/-- One step of the operation in progress: its word is at the line's level, because the transaction in progress is. -/
theorem TraceOk.opStep {op : HostOp} {s t : State} (h : TraceOk s) (hop : OperationOk s) (hstep : opStep op s = .next t) :
    TraceOk t := by
  rcases opStep_cases hstep with ⟨x, b, hx, hd⟩ | rfl | ⟨e, rfl⟩ | ⟨k, rest, -, -, hk⟩
  · have taken : TraceOk (takeWord x s) := h.of_same
    exact taken.delivered (by simpa [takeWord] using (hop.line x hx).1) hd
  · exact h.of_same
  · exact h.finishOp op e
  · have popped : TraceOk (s.setHost (s.host.setTasks rest)) := h.of_same
    exact popped.task (runTask_effect hk)

/-- Settles O39, over the parts of a step; the operation's invariant goes along, since the level of a word is known by it. -/
theorem stepKeepsTrace : Obligations.StepKeepsTrace := by
  intro s t hop hs h
  refine (step_keeps (P := fun u => OperationOk u ∧ TraceOk u) ?_ ?_ ?_ ?_ ?_ ⟨hop, hs⟩ h).2
  · exact fun u e ⟨hop, hu⟩ => ⟨hop.of_host rfl, hu.of_same⟩
  · exact fun u d ⟨hop, hu⟩ => ⟨hop.tick d, hu.of_trace_eq rfl (Nat.le_add_right _ d) (.inr ⟨rfl, rfl⟩)⟩
  · exact fun u f ⟨hop, hu⟩ => ⟨hop.of_host rfl, hu.of_same⟩
  · exact fun u op v hbusy _ ⟨hop, hu⟩ hv => ⟨hop.opStep hbusy hv, hu.opStep hop hv⟩
  · exact fun u op v hidle ⟨hop, hu⟩ hv => ⟨hop.startOp hidle hv, hu.startOp hv⟩

end Sys2Proof.Machine
end

section
/-! PROOFS. A delivered word: the delivery checks (R98), the frame check of a command word (R99), parameters and pixels (R100,
R101, R117), and what a word leaves alone. -/

namespace Sys2Proof.Machine

/-! ## The checks before a word's meaning -/

/-- A command word, known or not, goes through the delivery checks and the frame check (R98, R99). -/
theorem deliverWord_of_command {w : BusWord} (command : wordDc w = false) :
    ∃ body, ∀ s, deliverWord w s = deliver w (closeFrame w body) s := by
  unfold deliverWord
  cases h : decode w with
  | unknown b =>
    obtain rfl := word_of_decode_unknown h
    exact ⟨_, fun _ => rfl⟩
  | known i =>
    obtain rfl := encode_of_decode h
    cases i with
    | data b => simp at command
    | _ => exact ⟨_, fun _ => rfl⟩

/-- Every bus word goes through the delivery checks (R98). -/
theorem deliverWord_eq_deliver (w : BusWord) : ∃ body, ∀ s, deliverWord w s = deliver w body s := by
  cases dc : wordDc w with
  | false =>
    obtain ⟨body, h⟩ := deliverWord_of_command dc
    exact ⟨_, h⟩
  | true =>
    rw [← busWord_true_wordByte dc]
    exact ⟨dataWord (wordByte w), fun s => by rw [deliverWord, decode_encode_data]; rfl⟩

/-- Settles O6: the checks are those of `deliver`, whatever the word's meaning. -/
theorem deliveryChecksInOrder : Obligations.DeliveryChecksInOrder := by
  intro w s
  obtain ⟨body, h⟩ := deliverWord_eq_deliver w
  rw [h]
  refine ⟨fun low => ?_, fun high unknown => ?_, fun high known early => ?_⟩
  · simp [deliver, raise, low]
  · simp [deliver, raise, high, unknown]
  · simp [deliver, raise, high, known, early]

/-- Settles O7: the frame check comes before the opcode is looked at. -/
theorem commandCutsOffOpenFrame : Obligations.CommandCutsOffOpenFrame := by
  intro w s command accepted
  obtain ⟨body, h⟩ := deliverWord_of_command command
  rw [h, deliver_of_accepts accepted]
  refine ⟨fun op args opened => ?_, fun writing half => ?_⟩
  · simp [closeFrame, raise, opened]
  · simp [closeFrame, raise, writing, Option.isSome_iff_ne_none.mpr half]

/-- Settles O8: the frame is closed before the opcode is looked at. -/
theorem unknownCommandFaults : Obligations.UnknownCommandFaults := by
  intro w b s unknown accepted closed
  obtain rfl := word_of_decode_unknown unknown
  calc deliverWord (busWord false b) s
      = execUnknown b s := by rw [deliverWord, unknown]
    _ = closeFrame (busWord false b) (raise (.unknownCommand b)) (logWord (busWord false b) s) :=
        deliver_of_accepts accepted _ _
    _ = raise (.unknownCommand b) (closeStream (logWord (busWord false b) s)) :=
        closeFrame_of_closed (s := logWord (busWord false b) s) closed _ _

/-! ## Data words -/

/-- The trace entry of a data word (R98). -/
theorem wordEvent_data (b : Byte) (s : State) :
    wordEvent (encode (.data b)) s = .word s.host.now true b s.host.txn := by
  simp [wordEvent]

/-- An accepted data word is the parser's (R100). -/
theorem exec_data_of_accepts {s : State} (h : Accepts s) (b : Byte) :
    exec (.data b) s = dataWord b (logWord (encode (.data b)) s) :=
  deliver_of_accepts h _ _

/-- An accepted data word while a parameter list is open (R101). -/
theorem exec_data_of_params {s : State} (h : Accepts s) {op : ParamCmd} {args : List Byte}
    (parser : s.ctl.parser = .params op args) (b : Byte) :
    exec (.data b) s = paramByte op args b (logWord (encode (.data b)) s) := by
  rw [exec_data_of_accepts h]
  simp [dataWord, parser]

/-- Settles O14: the list with the new byte is still too short. -/
theorem parameterByteIsCollected : Obligations.ParameterByteIsCollected := by
  intro b op args s accepted parser short
  rw [exec_data_of_params accepted parser, paramByte, if_pos (by simpa using short)]
  simp [logWord, wordEvent_data, State.addEvent, State.setCtl, Controller.setParser]

/-- Settles O15: the list with the last byte is complete, and its commit is the command's. -/
theorem lastParameterCommits : Obligations.LastParameterCommits := by
  intro b p1 p2 p3 s accepted
  refine ⟨fun parser => ?_, fun parser => ?_, fun parser => ?_, fun parser => ?_⟩ <;>
    rw [exec_data_of_params accepted parser, logWord, wordEvent_data] <;> rfl

/-- Settles O18: the parser's two faults of a data word. -/
theorem strayAndOverrunDataFault : Obligations.StrayAndOverrunDataFault := by
  intro b s accepted
  rw [exec_data_of_accepts accepted]
  refine ⟨fun idle => ?_, fun writing full => ?_⟩
  · simp [dataWord, idle, raise, encode]
  · simp [dataWord, pixelByte, writing, full, raise, encode]

/-! ## What a word leaves alone -/

/-- Settles O20: a word changes the trace by its own entry, the controller, and the faults by at most one. -/
theorem wordsLeaveHostSideAlone : Obligations.WordsLeaveHostSideAlone := by
  intro w s t h
  obtain ⟨c, -, rfl | ⟨f, rfl⟩⟩ := deliverWord_delivered h
  · exact ⟨rfl, rfl, rfl, rfl, .inl rfl⟩
  · exact ⟨rfl, rfl, rfl, rfl, .inr ⟨f, rfl⟩⟩

/-- What a command word other than SWRESET can make of the controller `c`, by the command (R99, R111, R113, R114, R131 to
R136). -/
inductive CommandEffect (c : Controller) : Instr → Controller → Prop where
  | keep (i : Instr) : CommandEffect c i c
  | slpout (gate : Nat) : CommandEffect c .slpout ((c.setSleepOut.setParser .idle).setSettle gate)
  | noron (gate : Nat) : CommandEffect c .noron ((c.setNormalOn.setParser .idle).setSettle gate)
  | invon (gate : Nat) : CommandEffect c .invon ((c.setInvOn.setParser .idle).setSettle gate)
  | dispon (gate : Nat) : CommandEffect c .dispon ((c.setDispOn.setParser .idle).setSettle gate)
  | openParams (i : Instr) (op : ParamCmd) : CommandEffect c i (c.setParser (.params op []))
  | close : CommandEffect c .ramwr (c.setParser .idle)
  | openWrite (x y : Half) : CommandEffect c .ramwr (openWrite x y c)

/-- A command word keeps the controller, or its `Execute` starts from the closed frame (R98, R99). -/
theorem commandWord_effect {i : Instr} {body : State → Result} {s t : State}
    (execute : ∀ u, u.ctl = s.ctl → body (closeStream u) = .next t → CommandEffect s.ctl i t.ctl)
    (h : commandWord i body s = .next t) : CommandEffect s.ctl i t.ctl := by
  rcases commandWord_cases i body s with ⟨-, -, hb⟩ | ⟨f, hf⟩
  · exact execute (logWord (encode i) s) rfl (hb.symm.trans h)
  · cases hf.symm.trans h
    exact .keep i

theorem openParams_commandEffect {i : Instr} {op : ParamCmd} {c : Controller} {t : State} (u : State) (hu : u.ctl = c)
    (h : openParams op (closeStream u) = .next t) : CommandEffect c i t.ctl := by
  cases h
  exact hu ▸ .openParams i op

/-- All that a command word other than SWRESET can make of the controller. -/
theorem exec_commandEffect {i : Instr} {s t : State} (notReset : i ≠ .swreset) (notData : ∀ b, i ≠ .data b)
    (h : exec i s = .next t) : CommandEffect s.ctl i t.ctl := by
  cases i with
  | swreset => exact absurd rfl notReset
  | data b => exact absurd rfl (notData b)
  | slpout => exact commandWord_effect (fun u hu hv => by cases hv; exact hu ▸ .slpout _) h
  | noron => exact commandWord_effect (fun u hu hv => by cases hv; exact hu ▸ .noron _) h
  | invon => exact commandWord_effect (fun u hu hv => by cases hv; exact hu ▸ .invon _) h
  | dispon => exact commandWord_effect (fun u hu hv => by cases hv; exact hu ▸ .dispon _) h
  | caset => exact commandWord_effect openParams_commandEffect h
  | raset => exact commandWord_effect openParams_commandEffect h
  | madctl => exact commandWord_effect openParams_commandEffect h
  | colmod => exact commandWord_effect openParams_commandEffect h
  | ramwr =>
    refine commandWord_effect (fun u hu hv => ?_) h
    rcases ramwrEffect_cases (closeStream u) with ⟨xs, xe, ys, ye, -, -, -, -, -, -, -, hr⟩ | ⟨f, hr⟩ <;>
      cases hr.symm.trans hv
    · exact hu ▸ .openWrite xs ys
    · exact hu ▸ .close

/-- Settles O21, over what a command word can make of the controller. -/
theorem commandFrame : Obligations.CommandFrame := by
  intro i s t notReset notData h
  have effect := exec_commandEffect notReset notData h
  generalize t.ctl = c at effect ⊢
  cases effect <;> simp [openWrite]

/-- Settles O23, over all that a data word can do: a fault, a collected or committed parameter, half a pixel, a pixel. -/
theorem dataFrame : Obligations.DataFrame := by
  intro b s t h
  rcases deliver_cases (encode (.data b)) (dataWord b) s with ⟨-, hd⟩ | ⟨-, f, hd⟩
  · have word := hd.symm.trans h
    rcases dataWord_cases b (logWord (encode (.data b)) s) with ⟨f, hw⟩ | ⟨op, args, parser, -, hw⟩ |
      ⟨op, args, parser, -, hw⟩ | ⟨writing, -, first, hw⟩ | ⟨hi, writing, room, second, hw⟩ <;> rw [hw] at word
    · cases word
      simp
    · cases word
      simp
    · replace parser : s.ctl.parser = .params op args := parser
      rcases commitParams_cases op (args ++ [b]) (closeStream (logWord (encode (.data b)) s)) with
        ⟨rfl, v, hc⟩ | ⟨rfl, v, hc⟩ | ⟨rfl, v, hc⟩ | ⟨rfl, v, hc⟩ | ⟨-, hc⟩ <;> cases hc.symm.trans word <;>
        simp [parser]
    · replace writing : s.ctl.parser = .memwrite := writing
      cases word
      simp [writing]
    · rcases pixelLow_cases hi b (logWord (encode (.data b)) s) with
        ⟨cx, cy, xs, xe, ye, hcx, hcy, -, -, -, -, -, hl⟩ | ⟨_, _, -, -, -, hl⟩ | ⟨-, hl⟩ <;> cases hl.symm.trans word
      have stored : storeAddr s = some (cellAddr s.cfg cx.toNat cy.toNat) := by simp_all [storeAddr]
      replace writing : s.ctl.parser = .memwrite := writing
      simpa [writing, stored] using fun k high low => memRead_fbWrite_ne (join16 hi b) high low
  · cases hd.symm.trans h
    simp

end Sys2Proof.Machine
end

section
/-! PROOFS. One step of a transaction and of an operation between transactions (R95 to R97, R102 to R106, R109), and the
placed word (R73). -/

namespace Sys2Proof.Machine

/-! ## The turn of an operation in progress -/

@[simp] theorem countOverlap_ctl (s : State) : (countOverlap s).ctl = s.ctl := by
  obtain ⟨e, h⟩ := countOverlap_eq s
  rw [h]; rfl

@[simp] theorem countOverlap_cfg (s : State) : (countOverlap s).cfg = s.cfg := by
  obtain ⟨e, h⟩ := countOverlap_eq s
  rw [h]; rfl

@[simp] theorem countOverlap_trace (s : State) : (countOverlap s).trace = s.trace := by
  obtain ⟨e, h⟩ := countOverlap_eq s
  rw [h]; rfl

@[simp] theorem countOverlap_faults (s : State) : (countOverlap s).faults = s.faults := by
  obtain ⟨e, h⟩ := countOverlap_eq s
  rw [h]; rfl

/-- Time changes the clock only (R183). -/
theorem tick_host (d : Nat) (s : State) : (tick d s).host = s.host.setNow (s.host.now + d) := rfl

/-- After a host step with a next state only the inputs change, and of these not the calls and the listed decisions. -/
theorem afterHostStep_next (u : State) :
    ∃ e, afterHostStep (.next u) = .next (u.setEnv e) ∧ e.calls = u.env.calls ∧ e.bus = u.env.bus := by
  simp only [afterHostStep]
  split
  · refine ⟨_, rfl, ?_⟩
    unfold Env.dropTick
    split <;> exact ⟨rfl, rfl⟩
  · exact ⟨u.env, rfl, rfl, rfl⟩

/-- No time is drawn inside a transaction (R95). -/
theorem afterHostStep_of_xfer {r : Result} (h : ∀ t, r = .next t → t.host.xfer ≠ none) : afterHostStep r = r := by
  cases r with
  | next t => simp [afterHostStep, h t rfl]
  | fault f => rfl
  | refused f => rfl

section
variable {s : State} {op : HostOp} (faults : s.faults = []) (slack : s.env.slack = 0) (busy : s.host.op = some op)
  (noOverlap : overlapDue s = none)
include faults slack busy noOverlap

/-- A held host waits (R109, R126). -/
theorem step_of_held (held : isHeld s = true) : step s = .next (waitTick (countOverlap s)) := by
  simp [step, sessionStep, faults, slack, hostTurn, busy, busyTurn, noOverlap, held]

/-- A host that is not held takes the next step of its operation (R91, R95). -/
theorem step_of_not_held (free : isHeld s = false) : step s = afterHostStep (opStep op (countOverlap s)) := by
  simp [step, sessionStep, faults, slack, hostTurn, busy, busyTurn, noOverlap, free]

/-- The step of a transaction with a word left is the delivery of that word (R95, R98). -/
theorem step_of_word {x : Xfer} {b : Byte} {rest : List Byte} (xfer : s.host.xfer = some x) (words : x.words = b :: rest) :
    step s = deliverWord (busWord x.dc b) (takeWord x (countOverlap s)) := by
  rw [step_of_not_held faults slack busy noOverlap (by simp [isHeld, xfer, words])]
  simp only [opStep, countOverlap_host, xfer, xferStep, words]
  refine afterHostStep_of_xfer fun t ht => ?_
  rw [(deliverWord_delivered ht).host]
  simp [takeWord]

/-- The step of an operation between transactions runs its next task, unless that is a hold that still holds (R91). -/
theorem step_of_task {k : Task} {rest : List Task} (xfer : s.host.xfer = none) (tasks : s.host.tasks = k :: rest)
    (expired : k = .hold → s.host.wakeAt ≤ s.host.now) :
    step s = afterHostStep (runTask k ((countOverlap s).setHost (s.host.setTasks rest))) := by
  have free : isHeld s = false := by
    by_cases hold : k = .hold
    · simp [isHeld, xfer, tasks, Nat.not_lt.mpr (expired hold)]
    · simp [isHeld, xfer, tasks, hold]
  rw [step_of_not_held faults slack busy noOverlap free]
  simp [opStep, xfer, taskStep, tasks]

end

/-! ## The next word of a transaction -/

/-- Settles O26: the step is the delivery, and the decoder's verdict says whose. -/
theorem stepRunsTheDeliveredWord : Obligations.StepRunsTheDeliveredWord := by
  intro s op x b rest faults slack busy noOverlap xfer words
  have delivery := step_of_word faults slack busy noOverlap xfer words
  refine ⟨delivery, fun i known => ?_, by simp, ?_, by simp, by simp [faults]⟩
  · rw [delivery, deliverWord, known]
  · simp [takeWord, words, HostSide.setXfer]

/-- What the decoder reads from a number of the opcode table, it reads from that bus word. -/
theorem decode_of_decodeTableWord {nbits w : Nat} {i : Instr} (h : decodeTableWord nbits w = some i) :
    decode (BitVec.ofNat 9 w) = .known i := by
  unfold decodeTableWord at h
  split at h
  · split at h <;> cases h
    assumption
  · cases h

/-- Settles O27: the placed word is the only one of a transaction in progress. -/
theorem placedWordRunsNext : Obligations.PlacedWordRunsNext := by
  intro s nbits w i faults table
  have delivery := step_of_word (s := s.withFetchWord nbits w) faults rfl rfl rfl rfl rfl
  rw [busWord_parts, deliverWord, decode_of_decodeTableWord table] at delivery
  exact ⟨_, delivery, rfl, rfl, rfl, rfl, rfl, rfl⟩

/-! ## The transport calls -/

/-- Settles O42: the two corners come before any transaction. -/
theorem blockLengthCorners : Obligations.BlockLengthCorners := by
  intro bytes length s
  refine ⟨?_, fun long => ?_⟩
  · simp [sendDataBlock]
  · simp [sendDataBlock, long, raise]

/-- Settles O41: the bytes delivered first are `k` of them, clipped, and the other byte is there only if a byte was left out. -/
theorem failedTransactionDeliversPrefix : Obligations.FailedTransactionDeliversPrefix := by
  refine ⟨fun dc bytes s e k bad failing => ?_, fun bytes e n tail inside short complete => ?_⟩
  · refine ⟨min k bytes.length, if k < bytes.length then bad.toList else [], Nat.min_le_right _ _, ?_, ?_, ?_⟩
    · split
      · cases bad <;> simp
      · simp
    · intro all
      exact if_neg (by omega)
    · simp [beginTransfer, failing, deliveredBytes, choiceError, ← List.take_eq_take_min]
  · refine ⟨n, tail.head?, fun dc s failing => ?_⟩
    have other : (if n < bytes.length then tail.head?.toList else []) = tail := by
      split
      · match tail, short with
        | [], _ => rfl
        | [_], _ => rfl
      · exact (complete (by omega)).symm
    simp [beginTransfer, failing, deliveredBytes, choiceError, other]

/-- Settles O43, clause by clause: what the calls begin, which call a step makes, and which call a task is. -/
theorem transportCallBeginsTransaction : Obligations.TransportCallBeginsTransaction := by
  refine ⟨fun s b bytes length positive fits => ⟨rfl, rfl, ?_, fun ok => ?_, fun e k bad failing => ?_⟩,
    fun s op k rest faults slack busy noOverlap xfer tasks expired => ?_,
    fun s b bytes n k p x1 y1 x2 y2 v level => ⟨rfl, rfl, rfl, rfl, rfl, rfl, rfl, rfl⟩⟩
  · rw [sendDataBlock, if_neg (by omega), if_neg (by omega)]
    rfl
  · simp [ok, deliveredBytes, choiceError]
  · simp [failing, choiceError]
  · have run := step_of_task faults slack busy noOverlap xfer tasks expired
    refine ⟨fun u hu => ?_, fun f hf => ?_⟩
    · obtain ⟨e, after, calls, bus⟩ := afterHostStep_next u
      exact ⟨e, run.trans ((congrArg afterHostStep hu).trans after), calls, bus⟩
    · exact run.trans (congrArg afterHostStep hf)

/-! ## A transaction that timed out -/

/-- A failed operation returns the error of its transaction, bring-up as the cause of its own (R141, R169, R171). -/
theorem finalStatus_error (op : HostOp) (b : BusError) :
    finalStatus op (some b) = if op = .bringUp then .initFailed b else .bus b := by
  cases op <;> rfl

/-- A transport error ends bring-up in `FAILED`, and leaves the bring-up state of any other operation (R137). -/
theorem finalFsm_error (op : HostOp) (b : BusError) (f : Fsm) :
    finalFsm op (some b) f = if op = .bringUp then .failed else f := by
  cases op <;> rfl

/-- A failed return adds nothing to the trace, or the completion of a `flush` with the error (R157). -/
theorem finishOp_error_trace (op : HostOp) (b : BusError) (s : State) :
    (finishOp op (some b) s).trace = s.trace ∨
    (finishOp op (some b) s).trace = s.trace ++ [.flushDone s.host.now (.bus b)] := by
  cases op with
  | flush => exact .inr (by simp [finishOp, signalReturn, finalStatus, Status.ofBus])
  | _ => exact .inl (by simp [finishOp, signalReturn])

/-- A transaction that timed out holds the host until `T_BUS_TIMEOUT` after its start (R109). -/
theorem isHeld_of_timeout {s : State} {x : Xfer} (xfer : s.host.xfer = some x) (words : x.words = [])
    (error : x.error = some .timeout) : isHeld s = decide (s.host.now < x.start + s.cfg.tBusTimeout) := by
  simp [isHeld, xfer, words, error]

/-- Settles O44: before the end of the hold only time passes; from then on the operation returns with the error. -/
theorem timeoutHoldsThenReturns : Obligations.TimeoutHoldsThenReturns := by
  intro s op x faults slack busy noOverlap xfer words error
  have held := isHeld_of_timeout xfer words error
  refine ⟨fun early => ?_, fun late => ?_⟩
  · refine ⟨_, step_of_held faults slack busy noOverlap (by simpa [held] using early), ?_⟩
    simp [waitTick, tick_host, HostSide.setNow, faults]
  · have returns : opStep op (countOverlap s) = .next (finishOp op (some .timeout) (countOverlap s)) := by
      simp [opStep, xfer, xferStep, words, error]
    obtain ⟨e, after, -, -⟩ := afterHostStep_next (finishOp op (some .timeout) (countOverlap s))
    have run := step_of_not_held faults slack busy noOverlap (by simpa [held] using late)
    rw [returns, after] at run
    refine ⟨_, run, ?_⟩
    simpa [finishOp_host, finalStatus_error, finalFsm_error, faults] using
      finishOp_error_trace op .timeout (countOverlap s)

end Sys2Proof.Machine
end

section
/-! PROOFS. The addressing commands (R111, R113, R114), the bytes of one pixel (R115, R116), and the words and steps of
`set_window` (R119 to R121). -/

namespace Sys2Proof.Machine

/-! ## The commands that open a parameter list -/

/-- An accepted command with parameters, where no frame is cut off (R111, R113, R132, R133). -/
theorem commandWord_openParams {s : State} (accepted : Accepts s) (closed : FrameClosed s) (i : Instr) (op : ParamCmd) :
    commandWord i (openParams op) s = .next ((logWord (encode i) s).setCtl (s.ctl.setParser (.params op []))) :=
  commandWord_of_accepts accepted closed i _

/-- Settles O11: the four commands differ in their word only. -/
theorem parameterCommandsOpenFrame : Obligations.ParameterCommandsOpenFrame := fun _ accepted closed =>
  ⟨commandWord_openParams accepted closed .caset .caset, commandWord_openParams accepted closed .raset .raset,
    commandWord_openParams accepted closed .madctl .madctl, commandWord_openParams accepted closed .colmod .colmod⟩

/-! ## RAMWR -/

theorem windowLegal_iff {c : Config} {xs xe ys ye : Half} : windowLegal c xs xe ys ye = true ↔
    xs.toNat ≤ xe.toNat ∧ xe.toNat < c.w ∧ ys.toNat ≤ ye.toNat ∧ ye.toNat < c.h := by
  simp [windowLegal, and_assoc]

theorem formatSet_iff {s : State} : formatSet s = true ↔
    s.ctl.colmod = some s.cfg.colmod16bpp ∧ s.ctl.madctl = some s.cfg.madctlDefault := by
  simp [formatSet]

/-- The window is set when the four registers are known and hold a legal window (R114). -/
theorem exists_of_windowSet {s : State} (h : windowSet s = true) : ∃ xs xe ys ye, s.ctl.xs = some xs ∧
    s.ctl.xe = some xe ∧ s.ctl.ys = some ys ∧ s.ctl.ye = some ye ∧ windowLegal s.cfg xs xe ys ye = true := by
  unfold windowSet at h
  split at h
  · rename_i xs xe ys ye hxs hxe hys hye
    exact ⟨xs, xe, ys, ye, hxs, hxe, hys, hye, h⟩
  · cases h

/-- RAMWR's first check: the window (R114). -/
theorem ramwrEffect_of_not_windowSet {s : State} (h : windowSet s = false) :
    ramwrEffect s = raise (.windowInvalid s.ctl.xs s.ctl.xe s.ctl.ys s.ctl.ye) s := by
  unfold ramwrEffect
  split
  · rename_i xs xe ys ye hxs hxe hys hye
    have illegal : windowLegal s.cfg xs xe ys ye = false := by simpa [windowSet, hxs, hxe, hys, hye] using h
    rw [if_pos illegal, hxs, hxe, hys, hye]
  · rfl

/-- RAMWR's second check: the pixel format and the orientation (R114). -/
theorem ramwrEffect_of_not_formatSet {s : State} (window : windowSet s = true) (h : formatSet s = false) :
    ramwrEffect s = raise (.formatUnsupported s.ctl.colmod s.ctl.madctl) s := by
  obtain ⟨xs, xe, ys, ye, hxs, hxe, hys, hye, legal⟩ := exists_of_windowSet window
  have wrong : s.ctl.colmod ≠ some s.cfg.colmod16bpp ∨ s.ctl.madctl ≠ some s.cfg.madctlDefault :=
    not_and_or.mp fun both => by simp [formatSet_iff.mpr both] at h
  simp [ramwrEffect, hxs, hxe, hys, hye, legal, wrong]

/-- RAMWR's third check: the controller is out of sleep (R114). -/
theorem ramwrEffect_of_asleep {s : State} (window : windowSet s = true) (format : formatSet s = true)
    (h : s.ctl.sleepOut ≠ some true) : ramwrEffect s = raise .writeWhileSleep s := by
  obtain ⟨xs, xe, ys, ye, hxs, hxe, hys, hye, legal⟩ := exists_of_windowSet window
  obtain ⟨hcolmod, hmadctl⟩ := formatSet_iff.mp format
  simp [ramwrEffect, hxs, hxe, hys, hye, legal, hcolmod, hmadctl, h]

/-- RAMWR passes its checks (R114). -/
theorem ramwrEffect_of_checks {s : State} {xs xe ys ye : Half} (hxs : s.ctl.xs = some xs) (hxe : s.ctl.xe = some xe)
    (hys : s.ctl.ys = some ys) (hye : s.ctl.ye = some ye) (legal : windowLegal s.cfg xs xe ys ye = true)
    (format : formatSet s = true) (awake : s.ctl.sleepOut = some true) :
    ramwrEffect s = .next (s.setCtl (openWrite xs ys s.ctl)) := by
  obtain ⟨hcolmod, hmadctl⟩ := formatSet_iff.mp format
  simp [ramwrEffect, hxs, hxe, hys, hye, legal, hcolmod, hmadctl, awake]

/-- An accepted RAMWR where no frame is cut off is its `Execute` (R99, R114). -/
theorem exec_ramwr_of_accepts {s : State} (accepted : Accepts s) (closed : FrameClosed s) :
    exec .ramwr s = ramwrEffect (closeStream (logWord 0x02C#9 s)) :=
  commandWord_of_accepts accepted closed .ramwr _

/-- An accepted RAMWR that passes its checks opens the write; closing an earlier one leaves no mark (R114, R123). -/
theorem exec_ramwr_of_checks {s : State} (accepted : Accepts s) (closed : FrameClosed s) {xs xe ys ye : Half}
    (hxs : s.ctl.xs = some xs) (hxe : s.ctl.xe = some xe) (hys : s.ctl.ys = some ys) (hye : s.ctl.ye = some ye)
    (legal : windowLegal s.cfg xs xe ys ye = true) (format : formatSet s = true) (awake : s.ctl.sleepOut = some true) :
    exec .ramwr s = .next ((logWord 0x02C#9 s).setCtl (openWrite xs ys s.ctl)) :=
  (exec_ramwr_of_accepts accepted closed).trans
    (ramwrEffect_of_checks (s := closeStream (logWord 0x02C#9 s)) hxs hxe hys hye legal format awake)

/-- Settles O12: the window, the format and the sleep state of the hypotheses are RAMWR's checks. -/
theorem ramwrOpensWrite : Obligations.RamwrOpensWrite := by
  intro s xs xe ys ye accepted closed hxs hxe hys hye hx hw hy hh hcolmod hmadctl awake
  exact exec_ramwr_of_checks accepted closed hxs hxe hys hye (windowLegal_iff.mpr ⟨hx, hw, hy, hh⟩)
    (formatSet_iff.mpr ⟨hcolmod, hmadctl⟩) awake

/-- Settles O13: each clause is one of RAMWR's checks, after those before it passed. -/
theorem ramwrFaultsInOrder : Obligations.RamwrFaultsInOrder := by
  intro s accepted closed
  rw [exec_ramwr_of_accepts accepted closed]
  exact ⟨ramwrEffect_of_not_windowSet (s := closeStream (logWord 0x02C#9 s)),
    ramwrEffect_of_not_formatSet (s := closeStream (logWord 0x02C#9 s)),
    ramwrEffect_of_asleep (s := closeStream (logWord 0x02C#9 s))⟩

/-! ## The two bytes of a pixel -/

/-- An accepted data word in an open memory write is a pixel's byte (R100). -/
theorem exec_data_of_memwrite {s : State} (accepted : Accepts s) (writing : s.ctl.parser = .memwrite) (b : Byte) :
    exec (.data b) s = pixelByte b (logWord (encode (.data b)) s) := by
  rw [exec_data_of_accepts accepted]
  simp [dataWord, writing]

/-- With no byte pending, the byte is the high one (R115). -/
theorem exec_data_of_pend_none {s : State} (accepted : Accepts s) (writing : s.ctl.parser = .memwrite)
    (room : s.ctl.exhausted = false) (first : s.ctl.pend = none) (b : Byte) :
    exec (.data b) s = .next ((logWord (encode (.data b)) s).setCtl (s.ctl.setPend (some b))) := by
  rw [exec_data_of_memwrite accepted writing]
  simp [pixelByte, room, first]

/-- Settles O16: the word's entry and the pending byte, written out. -/
theorem pixelHighByteIsPending : Obligations.PixelHighByteIsPending := by
  intro b s accepted writing room first
  rw [exec_data_of_pend_none accepted writing room first, logWord, wordEvent_data]
  rfl

/-- With a byte pending and the cursor on the display, the byte is the low one (R115). -/
theorem exec_data_of_pend_some {s : State} (accepted : Accepts s) (writing : s.ctl.parser = .memwrite)
    (room : s.ctl.exhausted = false) {h : Byte} (second : s.ctl.pend = some h) {cx cy xs xe ye : Half}
    (hcx : s.ctl.cx = some cx) (hcy : s.ctl.cy = some cy) (hxs : s.ctl.xs = some xs) (hxe : s.ctl.xe = some xe)
    (hye : s.ctl.ye = some ye) (inW : cx.toNat < s.cfg.w) (inH : cy.toNat < s.cfg.h) (b : Byte) :
    exec (.data b) s = .next ((logWord (encode (.data b)) s).setCtl (advance xs xe ye cx cy
      ((s.ctl.setPend none).setFb (fbWrite s.cfg s.ctl.fb cx.toNat cy.toNat (join16 h b))))) := by
  rw [exec_data_of_memwrite accepted writing]
  simp [pixelByte, pixelLow, room, second, hcx, hcy, hxs, hxe, hye, inW, inH]

/-- The cursor's advance, field by field (R116). -/
theorem advance_eq {c : Controller} (room : c.exhausted = false) (xs xe ye cx cy : Half) :
    advance xs xe ye cx cy c = { c with
      cx := if cx.toNat < xe.toNat then some (cx + 1) else some xs
      cy := if cx.toNat < xe.toNat then some cy else if cy.toNat < ye.toNat then some (cy + 1) else some cy
      exhausted := !decide (cx.toNat < xe.toNat) && !decide (cy.toNat < ye.toNat) } := by
  unfold advance
  split_ifs with hx hy
  · simp [Controller.setCursor, hx, room]
  · simp [Controller.setCursor, hx, hy, room]
  · simp [Controller.setCursor, Controller.setExhausted, hx, hy]

/-- Settles O17: the word's entry, the cell and the cursor, written out. -/
theorem pixelLowByteWritesCell : Obligations.PixelLowByteWritesCell := by
  intro h b cx cy xs xe ye s accepted writing room second hcx hcy hxs hxe hye inW inH
  have stores := exec_data_of_pend_some accepted writing room second hcx hcy hxs hxe hye inW inH b
  rw [advance_eq (by simpa using room), logWord, wordEvent_data] at stores
  exact ⟨_, stores, rfl, fbRead_fbWrite_same _ _ _ _ _⟩

/-! ## The words of `set_window` -/

/-- The words `ws` are on the bus, one after another at one time (R98, R121). -/
def logWords (ws : List BusWord) (s : State) : State := { s with trace := s.trace ++ ws.map (wordEvent · s) }

theorem logWord_eq_logWords (w : BusWord) (s : State) : logWord w s = logWords [w] s := rfl

/-- The entries of words do not depend on the controller, nor on the entries before them. -/
theorem logWords_setCtl_logWords (v w : List BusWord) (s : State) (c : Controller) :
    logWords w ((logWords v s).setCtl c) = (logWords (v ++ w) s).setCtl c := by
  simp [logWords, State.setCtl, wordEvent]

/-- Words that were accepted leave a controller that accepts words, unless they set a gate (R98). -/
theorem accepts_logWords_setCtl {s : State} {c : Controller} (accepted : Accepts s) (known : c.parser ≠ .unknown)
    (gate : c.settleUntil = s.ctl.settleUntil) (ws : List BusWord) : Accepts ((logWords ws s).setCtl c) :=
  ⟨accepted.1, known, gate.trans_le accepted.2.2⟩

theorem deliverWords_cons {w : BusWord} {s t : State} (h : deliverWord w s = .next t) (ws : List BusWord) :
    deliverWords (w :: ws) s = deliverWords ws t := by
  rw [deliverWords, h]

theorem deliverWords_singleton (w : BusWord) (s : State) : deliverWords [w] s = deliverWord w s := by
  rw [deliverWords]
  cases deliverWord w s <;> rfl

theorem deliverWords_append {v : List BusWord} {s t : State} (h : deliverWords v s = .next t) (ws : List BusWord) :
    deliverWords (v ++ ws) s = deliverWords ws t := by
  induction v generalizing s with
  | nil => cases h; rfl
  | cons w v ih =>
    rw [deliverWords] at h
    split at h
    · rename_i u hu
      rw [List.cons_append, deliverWords_cons hu, ih h]
    · rename_i r hr
      exact absurd h (hr t)

theorem deliverWord_data (b : Byte) (s : State) : deliverWord (busWord true b) s = exec (.data b) s := by
  rw [deliverWord, decode_encode_data]

/-- Words after words, where both lists only log themselves and set the controller. -/
theorem deliverWords_append_setCtl {v w : List BusWord} {s : State} {c d : Controller}
    (first : deliverWords v s = .next ((logWords v s).setCtl c))
    (second : deliverWords w ((logWords v s).setCtl c) = .next ((logWords w ((logWords v s).setCtl c)).setCtl d)) :
    deliverWords (v ++ w) s = .next ((logWords (v ++ w) s).setCtl d) := by
  rw [deliverWords_append first, second, logWords_setCtl_logWords, State.setCtl_setCtl]

/-- The data words that complete an open parameter list commit it (R101). -/
theorem deliverWords_params {op : ParamCmd} (bytes : List Byte) {args : List Byte} {s : State} (accepted : Accepts s)
    (parser : s.ctl.parser = .params op args) (lacking : bytes ≠ [])
    (complete : args.length + bytes.length = op.nparams) :
    deliverWords (bytes.map (busWord true)) s =
      commitParams op (args ++ bytes) ((logWords (bytes.map (busWord true)) s).setCtl (s.ctl.setParser .idle)) := by
  induction bytes generalizing args s with
  | nil => exact absurd rfl lacking
  | cons b rest ih =>
    have byte : deliverWord (busWord true b) s = paramByte op args b (logWord (busWord true b) s) :=
      (deliverWord_data b s).trans (exec_data_of_params accepted parser b)
    cases rest with
    | nil =>
      rw [paramByte, if_neg (by simp at complete ⊢; omega)] at byte
      exact (deliverWords_singleton _ s).trans byte
    | cons b' rest =>
      rw [paramByte, if_pos (by simp at complete ⊢; omega)] at byte
      have left := ih (accepts_logWords_setCtl accepted (c := s.ctl.setParser (.params op (args ++ [b]))) nofun rfl
        [busWord true b]) rfl nofun (by simp at complete ⊢; omega)
      rw [logWords_setCtl_logWords, List.append_assoc] at left
      exact (deliverWords_cons byte _).trans left

/-- The words of a whole frame with parameters commit them (R75, R101). -/
theorem deliverWords_frame {op : ParamCmd} {bytes : List Byte} {s : State} (accepted : Accepts s) (closed : FrameClosed s)
    (complete : bytes.length = op.nparams) :
    deliverWords (busWord false op.opcode :: bytes.map (busWord true)) s = commitParams op bytes
      ((logWords (busWord false op.opcode :: bytes.map (busWord true)) s).setCtl (s.ctl.setParser .idle)) := by
  have opened : deliverWord (busWord false op.opcode) s =
      .next ((logWords [busWord false op.opcode] s).setCtl (s.ctl.setParser (.params op []))) := by
    cases op with
    | caset => exact commandWord_openParams accepted closed .caset _
    | raset => exact commandWord_openParams accepted closed .raset _
    | madctl => exact commandWord_openParams accepted closed .madctl _
    | colmod => exact commandWord_openParams accepted closed .colmod _
  have lacking : bytes ≠ [] := by
    rintro rfl
    cases op <;> cases complete
  have committed := deliverWords_params bytes (accepts_logWords_setCtl accepted
    (c := s.ctl.setParser (.params op [])) nofun rfl [busWord false op.opcode]) rfl lacking (by simpa using complete)
  rw [logWords_setCtl_logWords] at committed
  exact (deliverWords_cons opened _).trans committed

/-- CASET with its four parameters sets the columns (R77, R111). -/
theorem deliverWords_caset {s : State} (accepted : Accepts s) (closed : FrameClosed s) (x1 x2 : Half) :
    deliverWords (busWord false 0x2A :: [hi8 x1, lo8 x1, hi8 x2, lo8 x2].map (busWord true)) s =
      .next ((logWords (busWord false 0x2A :: [hi8 x1, lo8 x1, hi8 x2, lo8 x2].map (busWord true)) s).setCtl
        ((s.ctl.setParser .idle).setColumns (x1, x2))) := by
  refine (deliverWords_frame (op := .caset) accepted closed rfl).trans ?_
  simp [commitParams, boundsOf, ParamCmd.opcode]

/-- RASET with its four parameters sets the rows (R78, R113). -/
theorem deliverWords_raset {s : State} (accepted : Accepts s) (closed : FrameClosed s) (y1 y2 : Half) :
    deliverWords (busWord false 0x2B :: [hi8 y1, lo8 y1, hi8 y2, lo8 y2].map (busWord true)) s =
      .next ((logWords (busWord false 0x2B :: [hi8 y1, lo8 y1, hi8 y2, lo8 y2].map (busWord true)) s).setCtl
        ((s.ctl.setParser .idle).setRows (y1, y2))) := by
  refine (deliverWords_frame (op := .raset) accepted closed rfl).trans ?_
  simp [commitParams, boundsOf, ParamCmd.opcode]

/-- Settles O25, frame by frame: the columns, the rows, and RAMWR on the window they set. -/
theorem setWindowWordsOpenWindow : Obligations.SetWindowWordsOpenWindow := by
  intro s x1 y1 x2 y2 accepted closed legal format awake
  have accepts : ∀ c : Controller, c.parser = .idle → c.settleUntil = s.ctl.settleUntil → ∀ ws,
      Accepts ((logWords ws s).setCtl c) :=
    fun c idle gate => accepts_logWords_setCtl accepted (by simp [idle]) gate
  have columns := deliverWords_caset accepted closed x1 x2
  have frames := deliverWords_append_setCtl columns (deliverWords_raset (accepts _ (by rfl) (by rfl) _) (.inl rfl) y1 y2)
  exact deliverWords_append_setCtl frames ((deliverWords_singleton (encode .ramwr) _).trans
    (exec_ramwr_of_checks (accepts _ (by rfl) (by rfl) _) (.inl rfl) rfl rfl rfl rfl legal format awake))

/-! ## The steps of `set_window` -/

/-- A coordinate of the display is exactly a 16-bit value (R79). -/
theorem toNat_coord {v : Int} (h0 : 0 ≤ v) (h1 : v < 65536) : ((coord v).toNat : Int) = v := by
  rw [coord, BitVec.toNat_ofInt]
  omega

theorem windowArgsOk_iff {c : Config} {x1 y1 x2 y2 : Int} : windowArgsOk c x1 y1 x2 y2 = true ↔
    0 ≤ x1 ∧ x1 ≤ min x2 (c.w - 1) ∧ 0 ≤ y1 ∧ y1 ≤ min y2 (c.h - 1) := by
  simp only [windowArgsOk, Bool.and_eq_true, decide_eq_true_eq, and_assoc]
  rfl

/-- Settles O48: the display is at most 65536 wide and high (R9), so each clipped bound fits a half. -/
theorem setWindowClipsAndChecks : Obligations.SetWindowClipsAndChecks := by
  intro s x1 y1 x2 y2 wf
  refine ⟨fun bad => ?_, fun good => ?_⟩
  · rw [windowTask, if_pos (by simpa using mt windowArgsOk_iff.mp bad)]
    rfl
  · obtain ⟨w_le, h_le⟩ : s.cfg.w ≤ 65536 ∧ s.cfg.h ≤ 65536 := by
      simp only [Config.wf, Bool.and_eq_true, decide_eq_true_eq] at wf
      omega
    have ha := toNat_coord (v := x1) (by omega) (by omega)
    have hb := toNat_coord (v := y1) (by omega) (by omega)
    have hc := toNat_coord (v := clipX2 s.cfg x2) (by unfold clipX2; omega) (by unfold clipX2; omega)
    have hd := toNat_coord (v := clipY2 s.cfg y2) (by unfold clipY2; omega) (by unfold clipY2; omega)
    refine ⟨_, _, _, _, ha, hb, hc, hd, windowLegal_iff.mpr ?_, ?_, rfl, rfl⟩
    · unfold clipX2 clipY2 at *
      omega
    · rw [windowTask, if_neg (by simp [windowArgsOk_iff.mpr good])]
      rfl

end Sys2Proof.Machine
end

section
/-! PROOFS. A pixel stream: the cells of a window in the order of the cursor (R116), the memory that the first pixels of a
stream leave, and the invariant of an open memory write (R124). -/

namespace Sys2Proof.Machine

/-! ## The cells of a window -/

/-- The bounds of a window, as the window registers hold them (R33). -/
structure Window where
  xs : Half
  xe : Half
  ys : Half
  ye : Half

namespace Window

/-- `Wn`, the number of columns (R124). -/
def width (w : Window) : Nat := w.xe.toNat - w.xs.toNat + 1

/-- `Hn`, the number of rows (R124). -/
def height (w : Window) : Nat := w.ye.toNat - w.ys.toNat + 1

/-- The column of pixel `k` (R124). -/
def col (w : Window) (k : Nat) : Nat := w.xs.toNat + k % w.width

/-- The row of pixel `k` (R124). -/
def row (w : Window) (k : Nat) : Nat := w.ys.toNat + k / w.width

variable (w : Window) {k : Nat}

theorem width_pos : 0 < w.width := Nat.succ_pos _

theorem height_pos : 0 < w.height := Nat.succ_pos _

@[simp] theorem col_zero : w.col 0 = w.xs.toNat := by simp [col]

@[simp] theorem row_zero : w.row 0 = w.ys.toNat := by simp [row]

/-- A pixel is known by its cell. -/
theorem eq_of_cell_eq {j : Nat} (col : w.col j = w.col k) (row : w.row j = w.row k) : j = k := by
  have mod : j % w.width = k % w.width := Nat.add_left_cancel col
  have div : j / w.width = k / w.width := Nat.add_left_cancel row
  rw [← Nat.div_add_mod j w.width, mod, div, Nat.div_add_mod]

theorem col_lt_iff : w.col k < w.xe.toNat ↔ k % w.width + 1 < w.width := by
  unfold col
  generalize k % w.width = r
  unfold width
  omega

theorem row_lt_iff : w.row k < w.ye.toNat ↔ k / w.width + 1 < w.height := by
  unfold row
  generalize k / w.width = q
  unfold height
  omega

/-- After a pixel left of the last column comes the one beside it (R116). -/
theorem cell_succ_of_col_lt (h : w.col k < w.xe.toNat) : w.col (k + 1) = w.col k + 1 ∧ w.row (k + 1) = w.row k := by
  rw [col_lt_iff] at h
  have split := Nat.mod_add_div k w.width
  obtain ⟨div, mod⟩ := (Nat.div_mod_unique w.width_pos).mpr (⟨by omega, h⟩ :
    k % w.width + 1 + w.width * (k / w.width) = k + 1 ∧ k % w.width + 1 < w.width)
  exact ⟨by rw [col, col, mod]; rfl, by rw [row, row, div]⟩

/-- After a pixel in the last column comes the first one of the next row (R116). -/
theorem cell_succ_of_not_col_lt (h : ¬w.col k < w.xe.toNat) :
    w.col (k + 1) = w.xs.toNat ∧ w.row (k + 1) = w.row k + 1 := by
  rw [col_lt_iff] at h
  have split := Nat.mod_add_div k w.width
  have inRow := Nat.mod_lt k w.width_pos
  obtain ⟨div, mod⟩ := (Nat.div_mod_unique w.width_pos).mpr (⟨by rw [Nat.mul_succ]; omega, w.width_pos⟩ :
    0 + w.width * (k / w.width + 1) = k + 1 ∧ 0 < w.width)
  exact ⟨by rw [col, mod]; rfl, by rw [row, row, div]; rfl⟩

/-- The last pixel of a window is the one in its last column and row. -/
theorem succ_eq_size_iff (inside : k < w.width * w.height) :
    k + 1 = w.width * w.height ↔ ¬w.col k < w.xe.toNat ∧ ¬w.row k < w.ye.toNat := by
  have inRow := Nat.mod_lt k w.width_pos
  have inHeight : k / w.width < w.height := Nat.div_lt_of_lt_mul inside
  have size : w.width * w.height = w.width * (w.height - 1) + w.width := Nat.mul_succ _ _
  have last := Nat.div_mod_unique (a := k) (d := w.height - 1) (c := w.width - 1) w.width_pos
  have width_pos := w.width_pos
  rw [col_lt_iff, row_lt_iff]
  generalize k % w.width = r, k / w.width = q at *
  omega

/-- The pixels of a legal window are on the display (R114). -/
theorem cell_on_display {c : Config} (legal : windowLegal c w.xs w.xe w.ys w.ye = true)
    (inside : k < w.width * w.height) : w.col k < c.w ∧ w.row k < c.h := by
  obtain ⟨hx, hw, hy, hh⟩ := windowLegal_iff.mp legal
  have inRow := Nat.mod_lt k w.width_pos
  have inHeight : k / w.width < w.height := Nat.div_lt_of_lt_mul inside
  unfold col row
  generalize k % w.width = r, k / w.width = q at *
  unfold width height at *
  omega

end Window

/-! ## The memory that the first pixels of a stream leave -/

/-- `m'` is `m` with the pixels `px` in the first cells of the window, as far as the display reads it (R124). -/
structure Filled (c : Config) (w : Window) (px : List Half) (m m' : Memory) : Prop where
  written : ∀ k, k < px.length → fbRead c m' (w.col k) (w.row k) = px[k]?
  kept : ∀ x y, x < c.w → y < c.h → (∀ k, k < px.length → ¬(x = w.col k ∧ y = w.row k)) →
    fbRead c m' x y = fbRead c m x y

theorem filled_nil (c : Config) (w : Window) (m : Memory) : Filled c w [] m m :=
  ⟨nofun, fun _ _ _ _ _ => rfl⟩

/-- The next pixel goes to the next cell, which is none of those before it. -/
theorem Filled.append_singleton {c : Config} {w : Window} {px : List Half} {m m' : Memory} (h : Filled c w px m m')
    (legal : windowLegal c w.xs w.xe w.ys w.ye = true) (inside : px.length < w.width * w.height) (v : Half) :
    Filled c w (px ++ [v]) m (fbWrite c m' (w.col px.length) (w.row px.length) v) where
  written := fun k hk => by
    rcases Nat.lt_succ_iff_lt_or_eq.mp (by simpa using hk) with earlier | rfl
    · rw [List.getElem?_append_left earlier, ← h.written k earlier]
      exact fbRead_fbWrite_ne v (w.cell_on_display legal inside).1
        (w.cell_on_display legal (earlier.trans inside)).1
        fun same => earlier.ne (w.eq_of_cell_eq same.1 same.2)
    · rw [fbRead_fbWrite_same, List.getElem?_concat_length]
  kept := fun x y hx hy other => by
    rw [fbRead_fbWrite_ne v (w.cell_on_display legal inside).1 hx (other px.length (by simp))]
    exact h.kept x y hx hy fun k hk => other k (by simp; omega)

/-! ## An open memory write -/

/-- Delivering bytes is delivering their data words (R75). -/
theorem deliverBytes_eq_deliverWords (bytes : List Byte) (s : State) :
    deliverBytes bytes s = deliverWords (bytes.map (busWord true)) s := by
  induction bytes generalizing s with
  | nil => rfl
  | cons b bytes ih =>
    rw [deliverBytes, List.map_cons, deliverWords, deliverWord_data]
    cases exec (.data b) s with
    | next t => exact ih t
    | fault f => rfl
    | refused f => rfl

/-- The two bytes of a pixel write the cell at the cursor, and the cursor advances (R115, R116). -/
theorem deliverWords_pixel {s : State} (accepted : Accepts s) (writing : s.ctl.parser = .memwrite)
    (room : s.ctl.exhausted = false) (first : s.ctl.pend = none) {cx cy xs xe ye : Half} (hcx : s.ctl.cx = some cx)
    (hcy : s.ctl.cy = some cy) (hxs : s.ctl.xs = some xs) (hxe : s.ctl.xe = some xe) (hye : s.ctl.ye = some ye)
    (inW : cx.toNat < s.cfg.w) (inH : cy.toNat < s.cfg.h) (v : Half) :
    deliverWords ((pixelBytes [v]).map (busWord true)) s =
      .next ((logWords ((pixelBytes [v]).map (busWord true)) s).setCtl (advance xs xe ye cx cy
        ((s.ctl.setPend none).setFb (fbWrite s.cfg s.ctl.fb cx.toNat cy.toNat v)))) := by
  have high := (deliverWord_data (hi8 v) s).trans (exec_data_of_pend_none accepted writing room first (hi8 v))
  have low := exec_data_of_pend_some (s := (logWords [busWord true (hi8 v)] s).setCtl (s.ctl.setPend (some (hi8 v))))
    (accepts_logWords_setCtl accepted accepted.2.1 rfl _) writing room rfl hcx hcy hxs hxe hye inW inH (lo8 v)
  rw [join16_hi8_lo8, ← deliverWord_data] at low
  exact deliverWords_append_setCtl (v := [busWord true (hi8 v)]) ((deliverWords_singleton _ s).trans high)
    ((deliverWords_singleton _ _).trans low)

/-- `t` is what delivering the pixels `px` leaves of `s`, a memory write just opened on the window `w` (R124): the next pixel
goes to the next cell, if there is one. -/
structure Streaming (w : Window) (s : State) (px : List Half) (t : State) : Prop where
  accepted : Accepts t
  faults : t.faults = s.faults
  cfg : t.cfg = s.cfg
  writing : t.ctl.parser = .memwrite
  whole : t.ctl.pend = none
  xs : t.ctl.xs = some w.xs
  xe : t.ctl.xe = some w.xe
  ye : t.ctl.ye = some w.ye
  full : t.ctl.exhausted = true ↔ px.length = w.width * w.height
  cursor : px.length < w.width * w.height → ∃ cx cy, t.ctl.cx = some cx ∧ t.ctl.cy = some cy ∧
    cx.toNat = w.col px.length ∧ cy.toNat = w.row px.length
  filled : Filled s.cfg w px s.ctl.fb t.ctl.fb

theorem toNat_succ_of_lt {v u : Half} (h : v.toNat < u.toNat) : (v + 1).toNat = v.toNat + 1 := by
  bv_omega

/-- The window is full when its last pixel is complete (R116). -/
theorem advance_exhausted {w : Window} {cx cy : Half} {k : Nat} (hcx : cx.toNat = w.col k) (hcy : cy.toNat = w.row k)
    {c : Controller} (room : c.exhausted = false) (inside : k < w.width * w.height) :
    (advance w.xs w.xe w.ye cx cy c).exhausted = true ↔ k + 1 = w.width * w.height := by
  rw [advance_eq room, w.succ_eq_size_iff inside, hcx, hcy]
  simp

/-- The cursor goes on to the cell of the next pixel, if there is one (R116). -/
theorem advance_cursor {w : Window} {cx cy : Half} {k : Nat} (hcx : cx.toNat = w.col k) (hcy : cy.toNat = w.row k)
    (c : Controller) (more : k + 1 < w.width * w.height) : ∃ cx' cy', (advance w.xs w.xe w.ye cx cy c).cx = some cx' ∧
      (advance w.xs w.xe w.ye cx cy c).cy = some cy' ∧ cx'.toNat = w.col (k + 1) ∧ cy'.toNat = w.row (k + 1) := by
  unfold advance
  split_ifs with inRow nextRow
  · obtain ⟨col, row⟩ := w.cell_succ_of_col_lt (hcx ▸ inRow)
    exact ⟨cx + 1, cy, rfl, rfl, by rw [toNat_succ_of_lt inRow, hcx, col], by rw [hcy, row]⟩
  · obtain ⟨col, row⟩ := w.cell_succ_of_not_col_lt (hcx ▸ inRow)
    exact ⟨w.xs, cy + 1, rfl, rfl, by rw [col], by rw [toNat_succ_of_lt nextRow, hcy, row]⟩
  · exact absurd ((w.succ_eq_size_iff (by omega)).mpr ⟨hcx ▸ inRow, hcy ▸ nextRow⟩) more.ne

/-- One more pixel of a stream. -/
theorem Streaming.pixel {w : Window} {s t : State} {px : List Half} (h : Streaming w s px t)
    (legal : windowLegal s.cfg w.xs w.xe w.ys w.ye = true) (inside : px.length < w.width * w.height) (v : Half) :
    ∃ u, deliverWords ((pixelBytes [v]).map (busWord true)) t = .next u ∧ Streaming w s (px ++ [v]) u := by
  obtain ⟨cx, cy, hcx, hcy, col, row⟩ := h.cursor inside
  have room : t.ctl.exhausted = false := by simpa using mt h.full.mp inside.ne
  have onDisplay := w.cell_on_display legal inside
  rw [← col, ← row, ← h.cfg] at onDisplay
  refine ⟨_, deliverWords_pixel h.accepted h.writing room h.whole hcx hcy h.xs h.xe h.ye onDisplay.1 onDisplay.2 v, {
    accepted := accepts_logWords_setCtl h.accepted (by simp [h.writing]) (by simp) _
    faults := h.faults
    cfg := h.cfg
    writing := by simpa using h.writing
    whole := by simp
    xs := by simpa using h.xs
    xe := by simpa using h.xe
    ye := by simpa using h.ye
    full := by simpa using advance_exhausted col row (c := (t.ctl.setPend none).setFb _) room inside
    cursor := fun more => by
      rw [List.length_append] at more ⊢
      exact advance_cursor col row _ more
    filled := by
      rw [State.setCtl_ctl, advance_fb, h.cfg, col, row]
      exact h.filled.append_singleton legal inside v }⟩

/-- The induction over the pixels of a stream, from its end. -/
theorem deliverBytes_streaming {w : Window} {s : State} (opened : Streaming w s [] s)
    (legal : windowLegal s.cfg w.xs w.xe w.ys w.ye = true) (px : List Half) (fits : px.length ≤ w.width * w.height) :
    ∃ t, deliverBytes (pixelBytes px) s = .next t ∧ Streaming w s px t := by
  induction px using List.reverseRecOn with
  | nil => exact ⟨s, rfl, opened⟩
  | append_singleton px v ih =>
    rw [List.length_append] at fits
    obtain ⟨t, delivered, streaming⟩ := ih (Nat.le_of_succ_le fits)
    obtain ⟨u, pixel, streaming'⟩ := streaming.pixel legal fits v
    refine ⟨u, ?_, streaming'⟩
    rw [deliverBytes_eq_deliverWords] at delivered ⊢
    rw [pixelBytes, List.flatMap_append, List.map_append]
    exact (deliverWords_append delivered _).trans pixel

/-- Settles O19: the invariant of an open memory write, at the end of the stream. -/
theorem pixelStreamFillsRowMajor : Obligations.PixelStreamFillsRowMajor := by
  intro s xs xe ys ye px accepted writing room whole hxs hxe hye hcx hcy legal fits
  have opened : Streaming ⟨xs, xe, ys, ye⟩ s [] s := {
    accepted, writing, whole
    faults := rfl
    cfg := rfl
    xs := hxs
    xe := hxe
    ye := hye
    full := by simp [room, (Window.width_pos _).ne', (Window.height_pos _).ne']
    cursor := fun _ => ⟨xs, ys, hcx, hcy, by simp, by simp⟩
    filled := filled_nil _ _ _ }
  obtain ⟨t, delivered, streaming⟩ := deliverBytes_streaming opened legal px fits
  exact ⟨t, delivered, streaming.faults, streaming.whole, streaming.full, streaming.filled.written,
    streaming.filled.kept⟩

end Sys2Proof.Machine
end

section
/-! PROOFS. The commands of bring-up that take no parameters (R130, R131, R134 to R136), the reset line (R125, R127, R128) and
the delay (R126). -/

namespace Sys2Proof.Machine

/-! ## The commands without parameters -/

/-- Settles O9: the word is accepted and no frame is open, so the command goes on to its `Execute`. -/
theorem swresetResets : Obligations.SwresetResets := fun _ accepted closed =>
  commandWord_of_accepts accepted closed .swreset _

/-- Settles O10: the four commands differ in their word, their flag and their minimum. -/
theorem modeCommandsSetFlagAndGate : Obligations.ModeCommandsSetFlagAndGate := fun _ accepted closed =>
  ⟨commandWord_of_accepts accepted closed .slpout _, commandWord_of_accepts accepted closed .noron _,
    commandWord_of_accepts accepted closed .invon _, commandWord_of_accepts accepted closed .dispon _⟩

/-- Settles O22: SWRESET is a fault of the delivery checks or the frame check, or it is executed. -/
theorem swresetFrame : Obligations.SwresetFrame := by
  intro s t h
  rcases commandWord_cases .swreset _ s with ⟨accepted, closed, -⟩ | ⟨f, fault⟩
  · cases (swresetResets s accepted closed).symm.trans h
    exact .inr ⟨rfl, fun _ => rfl, rfl⟩
  · cases fault.symm.trans h
    exact .inl ⟨rfl, f, rfl⟩

/-! ## The reset line -/

/-- Asserting the line resets the controller at once and keeps the time of the first falling edge (R125). -/
theorem driveReset_low (s : State) : driveReset false s = .next (((s.addEvent (.resetEdge s.host.now false)).setHost
    (s.host.setRst false (if s.host.rstN = some false then s.host.rstLowSince else some s.host.now))).setCtl
      s.ctl.toReset) := by
  rcases driveReset_cases false s with ⟨-, since, drive, ⟨low, rfl⟩ | ⟨high, rfl⟩⟩ | ⟨rise, -⟩ | ⟨rise, -⟩ |
    ⟨rise, -⟩ | ⟨rise, -⟩
  · rw [drive, if_pos low]
  · rw [drive, if_neg high]
  all_goals cases rise

/-- Driving high a line that is not low changes the line only (R125). -/
theorem driveReset_of_not_low {s : State} (high : s.host.rstN ≠ some false) :
    driveReset true s = .next ((s.addEvent (.resetEdge s.host.now true)).setHost
      (s.host.setRst true s.host.rstLowSince)) := by
  rcases driveReset_cases true s with ⟨hl, -⟩ | ⟨-, low, -⟩ | ⟨-, since, low, -⟩ | ⟨-, since, low, -⟩ | ⟨-, -, drive⟩
  · cases hl
  · exact absurd low high
  · exact absurd low high
  · exact absurd low high
  · exact drive

theorem HostSide.setRst_self {h : HostSide} {l : Level} (line : h.rstN = some l) : h.setRst l h.rstLowSince = h := by
  simp [HostSide.setRst, ← line]

/-- Settles O54: asserting, driving a line high that is not low, releasing too early, and releasing in time. -/
theorem resetLineDrivesReset : Obligations.ResetLineDrivesReset := by
  intro s
  refine ⟨fun high => ?_, fun low => ?_, fun high => ?_, fun since low fell short => ?_, fun since low fell long => ?_⟩
  · rw [driveReset_low, if_neg high]
    rfl
  · rw [driveReset_low, if_pos low, HostSide.setRst_self low]
    rfl
  · exact driveReset_of_not_low high
  · simp [driveReset, low, fell, short, raise]
  · simp [driveReset, low, fell, Nat.not_lt.mpr long]
    rfl

/-- Driving the line records its edge (R125). -/
theorem driveReset_trace {l : Level} {s t : State} (h : driveReset l s = .next t) :
    t.trace = s.trace ++ [.resetEdge s.host.now l] := by
  rcases driveReset_cases l s with ⟨-, since, hd, -⟩ | ⟨-, -, -, hd⟩ | ⟨-, since, -, -, -, hd⟩ |
    ⟨-, since, -, -, -, hd⟩ | ⟨-, -, hd⟩ <;> cases hd.symm.trans h <;> rfl

/-- `t` is `s` after an edge of the reset line, now, that left the controller in its reset state (R48, R125). -/
def ResetByLine (s t : State) : Prop :=
  ∃ level gate, t.trace = s.trace ++ [.resetEdge s.host.now level] ∧ t.ctl = s.ctl.toReset.setSettle gate

theorem driveReset_ctl {l : Level} {s t : State} (h : driveReset l s = .next t) : t.ctl = s.ctl ∨ ResetByLine s t := by
  obtain ⟨-, hctl | ⟨gate, hctl⟩, -⟩ := driveReset_frame h
  · exact .inl hctl
  · exact .inr ⟨l, gate, driveReset_trace h, hctl⟩

/-- Of the tasks only the reset line reaches the controller; the others send their words later (R91, R95). -/
theorem TaskEffect.ctl {k : Task} {s t : State} (h : TaskEffect s k t) : t.ctl = s.ctl ∨ ResetByLine s t := by
  cases h with
  | line l t driven => exact driveReset_ctl driven
  | _ => exact .inl rfl

/-- A controller never reset accepts no word (R98). -/
theorem Delivered.ctl_of_unknown {w : BusWord} {s t : State} (h : Delivered w s t) (unknown : s.ctl.parser = .unknown) :
    t.ctl = s.ctl := by
  obtain ⟨c, rfl | ⟨accepted, -⟩, ends⟩ := h
  · rcases ends with rfl | ⟨f, rfl⟩ <;> rfl
  · exact absurd unknown accepted.2.1

/-- An operation step leaves a controller never reset alone, or is an edge of the line (R127). -/
theorem opStep_ctl_of_unknown {op : HostOp} {s t : State} (h : opStep op s = .next t)
    (unknown : s.ctl.parser = .unknown) : t.ctl = s.ctl ∨ ResetByLine s t := by
  rcases opStep_cases h with ⟨x, b, -, delivered⟩ | rfl | ⟨e, rfl⟩ | ⟨k, rest, -, -, task⟩
  · exact .inl (delivered.ctl_of_unknown (s := takeWord x s) unknown)
  · exact .inl rfl
  · exact .inl (finishOp_ctl op e s)
  · exact (runTask_effect task).ctl

/-- Settles O31: time, a concurrent call and a start leave the controller alone; a step of the operation is the line's. -/
theorem onlyResetLineLeavesUnknown : Obligations.OnlyResetLineLeavesUnknown := by
  intro s t h unknown left
  have kept : t.ctl = s.ctl ∨ ResetByLine s t := by
    obtain ⟨-, ⟨d, e, rfl⟩ | ⟨op, op', -, rfl⟩ | ⟨op, e, u, e', -, -, run, rfl⟩ | ⟨op, e, u, e', -, start, rfl⟩⟩ :=
      step_cases h
    · exact .inl rfl
    · exact .inl rfl
    · exact opStep_ctl_of_unknown (s := s.setEnv e) (t := u) run unknown
    · exact .inl (bookkeeping_startOp start).ctl
  exact kept.resolve_left fun same => left (same ▸ unknown)

/-! ## The delay -/

/-- Settles O55: the delay sets the wake time and the hold, the hold waits, and ends at the wake time. -/
theorem delayHoldsUntilWakeTime : Obligations.DelayHoldsUntilWakeTime := by
  intro s op ms rest faults slack busy noOverlap xfer
  refine ⟨fun tasks => ?_, fun tasks early => ?_, fun tasks late => ?_⟩
  · obtain ⟨e, after, -, -⟩ := afterHostStep_next (pushTasks [.hold]
      (((countOverlap s).setHost (s.host.setTasks rest)).setHost ((s.host.setTasks rest).setWakeAt (s.host.now + ms))))
    refine ⟨_, (step_of_task faults slack busy noOverlap xfer tasks nofun).trans after, ?_⟩
    simp [pushTasks]
  · have held : isHeld s = true := by simp [isHeld, xfer, tasks, early]
    refine ⟨_, step_of_held faults slack busy noOverlap held, ?_⟩
    simp [waitTick, tick_host, HostSide.setNow]
  · obtain ⟨e, after, -, -⟩ := afterHostStep_next ((countOverlap s).setHost (s.host.setTasks rest))
    refine ⟨_, (step_of_task faults slack busy noOverlap xfer tasks fun _ => late).trans after, ?_⟩
    simp [HostSide.setTasks]

end Sys2Proof.Machine
end

section
/-! PROOFS. Bring-up: the order of its steps (R138, R140, R146) and the transitions of its state (R137). -/

namespace Sys2Proof.Machine

/-! ## The steps of bring-up -/

/-- The tasks of bring-up step `k`, without its mark (R138). -/
def stepTasks (c : Config) : Nat → List Task
  | 1 => [.driveReset false, .delay c.tRstLow, .driveReset true, .delay c.tRstSettle]
  | 2 => [.command 0x01, .delay c.tSwreset]
  | 3 => [.command 0x11, .delay c.tSlpout]
  | 4 => [.command 0x3A, .data c.colmod16bpp]
  | 5 => [.command 0x36, .data c.madctlDefault]
  | 6 => if c.invertOn then [.command 0x21, .delay c.tInvon] else []
  | 7 => [.command 0x13, .delay c.tNoron]
  | 8 => [.command 0x29, .delay c.tDispon]
  | 9 => [.configureBacklight]
  | _ => []

/-- Bring-up steps, each after its mark. -/
def markedSteps (c : Config) (ks : List Nat) : List Task := ks.flatMap fun k => .phase k :: stepTasks c k

/-- Bring-up is step 1, whose mark is the start's, and then the marked steps 2 to 9 (R138). -/
theorem bringUpTasks_eq (c : Config) : bringUpTasks c = stepTasks c 1 ++ markedSteps c (List.range' 2 8) := by
  unfold bringUpTasks
  cases h : c.invertOn <;> simp [markedSteps, stepTasks, h, List.range']

/-- Each step from 2 to 8 sends the words and waits the delays that R138 says. -/
theorem stepTasks_words_waits (c : Config) {k : Nat} (first : 2 ≤ k) (last : k ≤ 8) :
    taskWords (stepTasks c k) = stepWords c k ∧ taskWaits (stepTasks c k) = stepWaits c k := by
  match k with
  | 2 | 3 | 4 | 5 | 7 | 8 => exact ⟨rfl, rfl⟩
  | 6 =>
    unfold stepTasks stepWords stepWaits
    cases c.invertOn <;> exact ⟨rfl, rfl⟩

theorem mem_phases {ts : List Task} {k : Nat} (h : .phase k ∈ ts) : k ∈ phases ts := by
  obtain ⟨pre, post, rfl⟩ := List.append_of_mem h
  simp [phases]

/-- Each mark stands in bring-up once. -/
theorem phase_notMem {c : Config} {pre post : List Task} {k : Nat} (h : bringUpTasks c = pre ++ .phase k :: post) :
    Task.phase k ∉ pre ∧ Task.phase k ∉ post := by
  have once : (phases (pre ++ .phase k :: post)).Nodup := h ▸ phases_bringUpTasks c ▸ List.nodup_range'
  rw [phases_append, phases, List.nodup_middle, List.nodup_cons, List.mem_append, not_or] at once
  obtain ⟨⟨notPre, notPost⟩, -⟩ := once
  exact ⟨mt mem_phases notPre, mt mem_phases notPost⟩

/-- Between the marks of two steps in a row stand the tasks of the first. -/
theorem bringUpTasks_split (c : Config) {k : Nat} (first : 2 ≤ k) (last : k ≤ 8) :
    ∃ pre post, bringUpTasks c = pre ++ .phase k :: (stepTasks c k ++ .phase (k + 1) :: post) := by
  obtain ⟨i, rfl⟩ := Nat.exists_eq_add_of_le first
  obtain ⟨j, hj⟩ := Nat.exists_eq_add_of_le last
  have ks : List.range' 2 8 = List.range' 2 i ++ (2 + i) :: (2 + i + 1) :: List.range' (2 + i + 2) j := by
    rw [show 8 = i + (j + 2) by omega, ← List.range'_append_1]
    rfl
  refine ⟨stepTasks c 1 ++ markedSteps c (List.range' 2 i),
    stepTasks c (2 + i + 1) ++ markedSteps c (List.range' (2 + i + 2) j), ?_⟩
  rw [bringUpTasks_eq, ks]
  simp [markedSteps]

/-- What stands between the marks of two steps in a row. -/
theorem tasks_between {c : Config} {pre mid post : List Task} {k : Nat}
    (h : bringUpTasks c = pre ++ .phase k :: mid ++ .phase (k + 1) :: post) : 2 ≤ k ∧ k ≤ 8 ∧ mid = stepTasks c k := by
  have marks := phases_bringUpTasks c
  have bounds : k ∈ List.range' 2 8 ∧ k + 1 ∈ List.range' 2 8 := by
    rw [← marks, h]
    simp [phases]
  simp only [List.mem_range'_1] at bounds
  obtain ⟨pre', post', h'⟩ := bringUpTasks_split c (k := k) (by omega) (by omega)
  rw [List.append_assoc, List.cons_append] at h
  obtain ⟨notPre, notRest⟩ := phase_notMem h
  obtain ⟨-, -, rest⟩ := (List.append_cons_inj_of_notMem notPre notRest).mp (h.symm.trans h')
  have next : bringUpTasks c = (pre ++ .phase k :: mid) ++ .phase (k + 1) :: post := by simpa using h
  obtain ⟨notMid, notPost⟩ := phase_notMem next
  obtain ⟨same, -, -⟩ := (List.append_cons_inj_of_notMem (fun hm => notMid (by simp [hm])) notPost).mp rest
  exact ⟨by omega, by omega, same⟩

/-- Each `k` in the list stands before a delay of `ms`. -/
def FollowedByDelay (k : Task) (ms : Nat) (ts : List Task) : Prop :=
  ∀ pre post, ts = pre ++ k :: post → post.head? = some (.delay ms)

@[simp] theorem followedByDelay_nil (k : Task) (ms : Nat) : FollowedByDelay k ms [] := by
  simp [FollowedByDelay]

@[simp] theorem followedByDelay_cons {k t : Task} {ms : Nat} {ts : List Task} :
    FollowedByDelay k ms (t :: ts) ↔ (t = k → ts.head? = some (.delay ms)) ∧ FollowedByDelay k ms ts := by
  refine ⟨fun h => ⟨fun same => h [] ts (same ▸ rfl), fun pre post split => h (t :: pre) post (split ▸ rfl)⟩, ?_⟩
  rintro ⟨head, tail⟩ pre post split
  cases pre with
  | nil =>
    obtain ⟨same, rfl⟩ := List.cons.inj split
    exact head same
  | cons a pre => exact tail pre post (List.cons.inj split).2

/-- Both reset edges and every command that sets a gate are followed at once by the delay of their minimum (R140). -/
theorem bringUpTasks_delays (c : Config) :
    FollowedByDelay (.driveReset false) c.tRstLow (bringUpTasks c) ∧
    FollowedByDelay (.driveReset true) c.tRstSettle (bringUpTasks c) ∧
    FollowedByDelay (.command 0x01) c.tSwreset (bringUpTasks c) ∧
    FollowedByDelay (.command 0x11) c.tSlpout (bringUpTasks c) ∧
    FollowedByDelay (.command 0x21) c.tInvon (bringUpTasks c) ∧
    FollowedByDelay (.command 0x13) c.tNoron (bringUpTasks c) ∧
    FollowedByDelay (.command 0x29) c.tDispon (bringUpTasks c) := by
  unfold bringUpTasks
  cases c.invertOn <;> simp

/-- Settles O56, clause by clause: the two ends, the line and the channel, the words, the marks, what stands between two of
them, the kinds of task, and the minimum delays. -/
theorem bringUpSendsItsStepsInOrder : Obligations.BringUpSendsItsStepsInOrder := by
  intro c
  refine ⟨rfl, ⟨stepTasks c 1 ++ markedSteps c (List.range' 2 7), ?_⟩, ?_, ?_, phases_bringUpTasks c,
    fun pre mid post k split => ?_, ?_, fun pre post t split => ?_⟩
  · rw [bringUpTasks_eq]
    simp [markedSteps, stepTasks, List.range']
  · unfold bringUpTasks
    cases c.invertOn <;> rfl
  · unfold bringUpTasks
    cases c.invertOn <;> rfl
  · obtain ⟨first, last, rfl⟩ := tasks_between split
    exact stepTasks_words_waits c first last
  · unfold bringUpTasks
    cases c.invertOn <;> simp
  · obtain ⟨low, high, swreset, slpout, invon, noron, dispon⟩ := bringUpTasks_delays c
    refine ⟨?_, ?_, ?_, ?_, ?_, ?_, ?_⟩ <;> rintro rfl
    · exact low pre post split
    · exact high pre post split
    · exact swreset pre post split
    · exact slpout pre post split
    · exact invon pre post split
    · exact noron pre post split
    · exact dispon pre post split

/-! ## The bring-up state -/

/-- Of the tasks only a bring-up step changes the bring-up state (R137). -/
theorem TaskEffect.fsm {k : Task} {s t : State} (h : TaskEffect s k t) :
    t.host.fsm = s.host.fsm ∨ ∃ n, k = .phase n ∧ t.host.fsm = .bringup n := by
  cases h with
  | line l t driven =>
    obtain ⟨-, -, hh | ⟨since, hh⟩⟩ := driveReset_frame driven <;> exact .inl (by simp [hh])
  | phase n => exact .inr ⟨n, rfl, rfl⟩
  | _ => exact .inl rfl

/-- All that one step of an operation can do to the bring-up state: leave it, return with no task left or with a transport
error, or enter a bring-up step. -/
theorem opStep_fsm {op : HostOp} {s t : State} (h : opStep op s = .next t) :
    t.host.fsm = s.host.fsm ∨
    (∃ e, (e = none → s.host.tasks = []) ∧ t = finishOp op e s) ∨
    (∃ n rest, s.host.tasks = .phase n :: rest ∧ t.host.fsm = .bringup n) := by
  unfold opStep at h
  split at h
  · unfold xferStep at h
    split at h
    · exact .inl (by simp [(deliverWord_delivered h).host, takeWord])
    · split at h <;> cases h
      · exact .inl rfl
      · exact .inr (.inl ⟨some _, nofun, rfl⟩)
  · unfold taskStep at h
    split at h
    · rename_i done
      cases h
      exact .inr (.inl ⟨none, fun _ => done, rfl⟩)
    · rename_i k rest tasks
      rcases (runTask_effect h).fsm with same | ⟨n, rfl, enters⟩
      · exact .inl same
      · exact .inr (.inr ⟨n, rest, tasks, enters⟩)

/-- The return of any operation but `bring_up` leaves the bring-up state (R137). -/
theorem finalFsm_of_ne {op : HostOp} (other : op ≠ .bringUp) (e : Option BusError) (f : Fsm) : finalFsm op e f = f := by
  cases op with
  | bringUp => exact absurd rfl other
  | _ => rfl

/-- The next bring-up step to come is the one after the one in progress (R138). -/
theorem OperationOk.next_phase {s : State} {n : Nat} {rest : List Task} (hs : OperationOk s)
    (tasks : s.host.tasks = .phase n :: rest) : ∃ k, s.host.fsm = .bringup k ∧ k < 9 ∧ n = k + 1 := by
  have marks : phases s.host.tasks = n :: phases rest := by rw [tasks, phases]
  have bringsUp : s.host.op = some .bringUp := Classical.byContradiction fun other => by
    simp [(hs.outside other).1] at marks
  obtain ⟨k, fsm, -, -, toCome⟩ := hs.inside bringsUp
  obtain ⟨rfl, left, -⟩ := List.range'_eq_cons_iff.mp (toCome.symm.trans marks)
  exact ⟨k, fsm, by omega, rfl⟩

/-- With no task left, bring-up is in its last step (R138). -/
theorem OperationOk.last_phase {s : State} (hs : OperationOk s) (bringsUp : s.host.op = some .bringUp)
    (done : s.host.tasks = []) : s.host.fsm = .bringup 9 := by
  obtain ⟨k, fsm, -, last, toCome⟩ := hs.inside bringsUp
  have none : 9 - k = 0 := by simpa [done, phases] using toCome.symm
  rwa [show k = 9 by omega] at fsm

/-- A row of the table of R137 within a bring-up: the next step, `READY` from step 9, or `FAILED`. -/
def BringUpAdvances (s t : State) : Prop :=
  (∃ k, s.host.fsm = .bringup k ∧ k < 9 ∧ t.host.fsm = .bringup (k + 1)) ∨
  (s.host.fsm = .bringup 9 ∧ t.host.fsm = .ready ∧ t.host.status = some .ok) ∨
  (∃ k e, s.host.fsm = .bringup k ∧ t.host.fsm = .failed ∧ t.host.status = some (.initFailed e))

/-- A return changes the bring-up state of `bring_up` only: from step 9 into `READY`, or into `FAILED` (R137, R141). -/
theorem finishOp_advances {op : HostOp} {e : Option BusError} {s : State} (hs : OperationOk s)
    (busy : s.host.op = some op) (done : e = none → s.host.tasks = [])
    (changed : s.host.fsm ≠ (finishOp op e s).host.fsm) : BringUpAdvances s (finishOp op e s) := by
  by_cases bringsUp : op = .bringUp
  · subst bringsUp
    unfold BringUpAdvances
    rw [finishOp_host]
    cases e with
    | none => exact .inr (.inl ⟨hs.last_phase busy (done rfl), rfl, rfl⟩)
    | some e =>
      obtain ⟨k, fsm, -⟩ := hs.inside busy
      exact .inr (.inr ⟨k, e, fsm, rfl, rfl⟩)
  · simp [finishOp_host, finalFsm_of_ne bringsUp] at changed

/-- One step of the operation in progress goes along the table (R137). -/
theorem opStep_advances {op : HostOp} {s t : State} (hs : OperationOk s) (busy : s.host.op = some op)
    (h : opStep op s = .next t) (changed : s.host.fsm ≠ t.host.fsm) : BringUpAdvances s t := by
  rcases opStep_fsm h with same | ⟨e, done, rfl⟩ | ⟨n, rest, tasks, enters⟩
  · exact absurd same.symm changed
  · exact finishOp_advances hs busy done changed
  · obtain ⟨k, fsm, notLast, rfl⟩ := hs.next_phase tasks
    exact .inl ⟨k, fsm, notLast, enters⟩

/-- A start changes the bring-up state only where `bring_up` starts, outside a bring-up step (R137). -/
theorem startOp_fsm {op : HostOp} {s t : State} (h : startOp op s = .next t) : t.host.fsm = s.host.fsm ∨
    ((∀ k, s.host.fsm ≠ .bringup k) ∧ t.host.op = some .bringUp ∧ t.host.fsm = .bringup 1) := by
  rcases startOp_cases op s with ⟨f, hc⟩ | ⟨-, f, hc⟩ | ⟨-, ts, -, hc⟩ | ⟨rfl, out, hc⟩ | ⟨-, k, -, hc⟩ <;>
    cases hc.symm.trans h
  · exact .inl rfl
  · exact .inl rfl
  · exact .inl rfl
  · exact .inr ⟨out, rfl, rfl⟩

/-- Settles O57: time and a concurrent call leave the bring-up state, a step of the operation advances it, a start begins it. -/
theorem bringUpTransitions : Obligations.BringUpTransitions := by
  intro s t hs h changed
  obtain ⟨-, ⟨d, e, rfl⟩ | ⟨op, op', -, rfl⟩ | ⟨op, e, u, e', busy, -, run, rfl⟩ | ⟨op, e, u, e', idle, start, rfl⟩⟩ :=
    step_cases h
  · exact absurd rfl changed
  · exact absurd rfl changed
  · have advances : BringUpAdvances (s.setEnv e) u := opStep_advances (hs.of_host rfl) busy run changed
    exact .inr advances
  · rcases startOp_fsm start with same | ⟨out, bringsUp, begun⟩
    · exact absurd same.symm changed
    · exact .inl ⟨out, idle, bringsUp, begun⟩

end Sys2Proof.Machine
end

section
/-! PROOFS. The steps that the drawing operations start with (R148 to R156), and the chunks and bytes they send. -/

namespace Sys2Proof.Machine

/-! ## The bytes of a fill and of a flush -/

/-- A pixel is two bytes (R82). -/
@[simp] theorem length_pixelBytes (px : List Half) : (pixelBytes px).length = 2 * px.length := by
  simp [pixelBytes, List.length_flatMap, Nat.mul_comm]

@[simp] theorem length_pattern (v : Half) (n : Nat) : (pattern v n).length = n := by simp [pattern]

/-- A prefix of the pattern is the pattern of that length (R152). -/
theorem take_pattern (v : Half) {m n : Nat} (h : m ≤ n) : (pattern v n).take m = pattern v m := by
  rw [pattern, ← List.map_take, List.take_range, Nat.min_eq_left h, pattern]

/-- The pattern of an even length is the colour repeated, high byte first (R152). -/
theorem pattern_even (v : Half) (k : Nat) : pattern v (2 * k) = pixelBytes (List.replicate k v) := by
  induction k with
  | zero => rfl
  | succ k ih =>
    have longer : pattern v (2 * (k + 1)) = pattern v (2 * k) ++ [hi8 v, lo8 v] := by
      simp [pattern, Nat.mul_add, List.range_succ]
    rw [longer, ih, List.replicate_succ', pixelBytes, pixelBytes, List.flatMap_append]
    rfl

/-- The chunks of a fill, by the turns of its loop: a full chunk while one fits, then the rest (R153). -/
theorem chunkSizes_eq {chunk : Nat} (positive : 0 < chunk) {fuel total : Nat} (enough : total ≤ fuel) :
    chunkSizes chunk fuel total =
      List.replicate (total / chunk) chunk ++ (if total % chunk = 0 then [] else [total % chunk]) := by
  induction fuel generalizing total with
  | zero => simp [Nat.le_zero.mp enough, chunkSizes]
  | succ fuel ih =>
    by_cases done : total = 0
    · simp [done, chunkSizes]
    rw [chunkSizes, if_neg done, ih (by omega)]
    by_cases fits : chunk ≤ total
    · rw [Nat.min_eq_left fits, ← Nat.mod_eq_sub_mod fits, Nat.div_eq_sub_div positive fits, List.replicate_succ]
      rfl
    · have less : total < chunk := Nat.lt_of_not_le fits
      simp [Nat.min_eq_right less.le, Nat.div_eq_of_lt less, Nat.mod_eq_of_lt less, done]

/-- Settles O51: the sizes of the chunks, the turn of the loop with and without bytes left, and the bytes it sends. -/
theorem fillChunksAreFullThenRest : Obligations.FillChunksAreFullThenRest := by
  intro chunk total positive
  refine ⟨fun fuel enough => chunkSizes_eq positive enough, fun s v size left => ?_, fun s v => if_pos rfl,
    fun v k fits => ⟨length_pattern v chunk, (take_pattern v fits).trans (pattern_even v k)⟩⟩
  subst size
  exact if_neg left.ne'

/-! ## The steps of the drawing operations -/

theorem onDisplay_iff {c : Config} {x y : Int} : onDisplay c x y = true ↔ 0 ≤ x ∧ x < c.w ∧ 0 ≤ y ∧ y < c.h := by
  simp [onDisplay, and_assoc]

theorem flushRegionOk_iff {c : Config} {x1 y1 x2 y2 : Int} : flushRegionOk c x1 y1 x2 y2 = true ↔
    0 ≤ x1 ∧ x1 ≤ x2 ∧ x2 < c.w ∧ 0 ≤ y1 ∧ y1 ≤ y2 ∧ y2 < c.h := by
  simp [flushRegionOk, and_assoc]

/-- Settles O49: the plan asks only whether the point is on the display. -/
theorem drawPixelPlan : Obligations.DrawPixelPlan := by
  intro c x y v
  refine ⟨fun off => ?_, fun on => ?_⟩
  · rw [plan, if_neg (mt onDisplay_iff.mp off)]
  · rw [plan, if_pos (onDisplay_iff.mpr on)]

/-- With no visible cell there is nothing to fill (R151). -/
theorem fillPlan_of_hidden {c : Config} {x y w h : Int} (hidden : min (x + w) c.w ≤ max x 0 ∨ min (y + h) c.h ≤ max y 0)
    (v : Half) : fillPlan c x y w h v = [] :=
  if_pos hidden

/-- With a visible cell the plan is the clipped rectangle and two bytes for each of its cells (R151). -/
theorem fillPlan_of_visible {c : Config} {x y w h : Int}
    (visible : max x 0 < min (x + w) c.w ∧ max y 0 < min (y + h) c.h) (v : Half) :
    fillPlan c x y w h v = [.window (max x 0) (max y 0) (min (x + w) c.w - 1) (min (y + h) c.h - 1),
      .fill v (((min (x + w) c.w - max x 0) * (min (y + h) c.h - max y 0)).toNat * 2)] :=
  if_neg (by simp only [clipEnd]; omega)

/-- A display has at least one cell (R9). -/
theorem display_pos_of_wf {c : Config} (wf : c.wf = true) : 1 ≤ c.w ∧ 1 ≤ c.h := by
  simp only [Config.wf, Bool.and_eq_true, decide_eq_true_eq] at wf
  omega

/-- `fill_screen` is not clipped (R155). -/
theorem fillPlan_screen {c : Config} (wf : c.wf = true) (v : Half) :
    fillPlan c 0 0 c.w c.h v = [.window 0 0 (c.w - 1) (c.h - 1), .fill v (c.w * c.h * 2)] := by
  obtain ⟨w_pos, h_pos⟩ := display_pos_of_wf wf
  have cells : ((c.w : Int) * c.h).toNat = c.w * c.h := Int.toNat_natCast (c.w * c.h)
  rw [fillPlan_of_visible (by omega)]
  simp [cells]

/-- Settles O50: the clipped bounds lie on the display, so `set_window` takes them as they are. -/
theorem fillRectClipsOnAllSides : Obligations.FillRectClipsOnAllSides := by
  intro c x y w h v wf
  refine ⟨fun hidden => congrArg Except.ok (fillPlan_of_hidden hidden v), fun visible => ?_, rfl,
    congrArg Except.ok (fillPlan_screen wf v)⟩
  obtain ⟨xVisible, yVisible⟩ := visible
  have area : 0 < (min (x + w) c.w - max x 0) * (min (y + h) c.h - max y 0) :=
    mul_pos (sub_pos.mpr xVisible) (sub_pos.mpr yVisible)
  refine ⟨_, _, _, _, _, congrArg Except.ok (fillPlan_of_visible ⟨xVisible, yVisible⟩ v), rfl, rfl, rfl, rfl,
    windowArgsOk_iff.mpr ?_, ?_, ?_, ?_, ?_⟩
  · omega
  · unfold clipX2
    omega
  · unfold clipY2
    omega
  · rw [sub_right_comm, sub_add_cancel, sub_right_comm, sub_add_cancel]
    push_cast
    rw [Int.toNat_of_nonneg area.le]
  · omega

/-- `flush` faults on a region not inside the display (R156). -/
theorem flushPlan_of_outside {c : Config} {x1 y1 x2 y2 : Int}
    (outside : ¬(0 ≤ x1 ∧ x1 ≤ x2 ∧ x2 < c.w ∧ 0 ≤ y1 ∧ y1 ≤ y2 ∧ y2 < c.h)) (buf : List Half) :
    flushPlan c x1 y1 x2 y2 buf = .error (.flushRegionInvalid x1 y1 x2 y2 buf.length none) :=
  if_pos (by simpa using mt flushRegionOk_iff.mp outside)

section
variable {c : Config} {x1 y1 x2 y2 : Int} (inside : 0 ≤ x1 ∧ x1 ≤ x2 ∧ x2 < c.w ∧ 0 ≤ y1 ∧ y1 ≤ y2 ∧ y2 < c.h)
  {buf : List Half}
include inside

/-- `flush` faults on a buffer shorter than the region (R156). -/
theorem flushPlan_of_short (short : buf.length < regionPixels x1 y1 x2 y2) : flushPlan c x1 y1 x2 y2 buf =
    .error (.flushRegionInvalid x1 y1 x2 y2 buf.length (some (regionPixels x1 y1 x2 y2))) := by
  rw [flushPlan, if_neg (by simp [flushRegionOk_iff.mpr inside]), if_pos short]

/-- `flush` sends the region from the front of the buffer (R156). -/
theorem flushPlan_of_enough (enough : regionPixels x1 y1 x2 y2 ≤ buf.length) : flushPlan c x1 y1 x2 y2 buf =
    .ok [.window x1 y1 x2 y2,
      .block (pixelBytes (buf.take (regionPixels x1 y1 x2 y2))) (2 * regionPixels x1 y1 x2 y2)] := by
  rw [flushPlan, if_neg (by simp [flushRegionOk_iff.mpr inside]), if_neg (Nat.not_lt.mpr enough)]

end

end Sys2Proof.Machine
end

section
/-! PROOFS. The start of a host operation, and the turn of an idle host (R93, R137, R147, R191). -/

namespace Sys2Proof.Machine

/-- Drawing needs `READY` (R147, R174). -/
theorem startOp_of_not_ready {op : HostOp} {s : State} (drawing : isDrawing op = true) (fsm : s.host.fsm ≠ .ready) :
    startOp op s = .next (s.addFault (.notReady op s.host.fsm)) :=
  if_pos ⟨drawing, fsm⟩

section
variable {op : HostOp} {s : State} (other : op ≠ .bringUp) (ready : isDrawing op = true → s.host.fsm = .ready)
include other ready

/-- Any operation but `bring_up`, in `READY` if it draws, starts with its plan (R93). -/
theorem startOp_eq_beginPlan : startOp op s = beginPlan op s := by
  rw [startOp, if_neg (fun h => h.2 (ready h.1)), if_neg other]

/-- An operation whose plan has no fault is in progress with the steps of that plan (R91, R93). -/
theorem startOp_of_plan {tasks : List Task} (planned : plan s.cfg op = .ok tasks) :
    startOp op s = .next (s.setHost ((s.host.setOp (some op)).setTasks tasks)) := by
  rw [startOp_eq_beginPlan other ready, beginPlan, planned]

/-- An operation whose plan is a fault raises it when already in progress (log 18). -/
theorem startOp_of_plan_fault {f : Raised} (planned : plan s.cfg op = .error f) :
    startOp op s = .next ((s.setHost (s.host.setOp (some op))).addFault f) := by
  rw [startOp_eq_beginPlan other ready, beginPlan, planned]
  rfl

end

/-- Bring-up starts outside its own steps (R137, R138). -/
theorem startOp_bringUp {s : State} (out : ∀ k, s.host.fsm ≠ .bringup k) :
    startOp .bringUp s =
      .next (s.setHost (((s.host.setFsm (.bringup 1)).setOp (some .bringUp)).setTasks (bringUpTasks s.cfg))) := by
  rw [startOp, if_neg (fun h => Bool.noConfusion h.1), if_pos rfl]
  split
  · exact absurd ‹_› (out _)
  · rfl

/-- A start takes nothing of the inputs. -/
theorem startOp_env {op : HostOp} {s t : State} (h : startOp op s = .next t) : t.env = s.env := by
  rcases startOp_cases op s with ⟨f, hc⟩ | ⟨-, f, hc⟩ | ⟨-, ts, -, hc⟩ | ⟨-, -, hc⟩ | ⟨-, k, -, hc⟩ <;>
    cases hc.symm.trans h <;> rfl

section
variable {s : State} (faults : s.faults = []) (slack : s.env.slack = 0) (idle : s.host.op = none)
include faults slack idle

/-- An idle host starts its caller's next call (R191). -/
theorem step_of_call {c : Call} {rest : List Call} (calls : s.env.calls = c :: rest) :
    step s = afterHostStep (startOp c.op (s.setEnv { s.env with calls := rest })) := by
  simp [step, sessionStep, faults, slack, hostTurn, idle, idleTurn, calls]

/-- With no call an idle host waits (R183). -/
theorem step_of_no_call (calls : s.env.calls = []) : step s = .next (waitTick s) := by
  simp [step, sessionStep, faults, slack, hostTurn, idle, idleTurn, calls]

end

/-- Settles O46, clause by clause: the starts, the one-step plans, and the step of an idle host with a call and without. -/
theorem drawingNeedsReady : Obligations.DrawingNeedsReady := by
  refine ⟨fun s op => ⟨startOp_of_not_ready, fun tasks other ready => startOp_of_plan other ready,
      fun f other ready => startOp_of_plan_fault other ready, startOp_bringUp⟩,
    fun c b bytes n x1 y1 x2 y2 level => ⟨rfl, rfl, rfl, rfl, rfl, rfl, rfl⟩,
    fun s c rest faults slack idle calls => ?_, fun s faults slack idle calls => ?_⟩
  · have run := step_of_call faults slack idle calls
    refine ⟨fun u started => ?_, fun f stops => run.trans (congrArg afterHostStep stops)⟩
    obtain ⟨e, after, eCalls, eBus⟩ := afterHostStep_next u
    have env := startOp_env started
    exact ⟨e, run.trans ((congrArg afterHostStep started).trans after), by rw [eCalls, env], by rw [eBus, env]⟩
  · refine ⟨_, step_of_no_call faults slack idle calls, ?_⟩
    simp [waitTick, tick_host, HostSide.setNow, faults]

/-- Settles O52: the two faults of the plan of `flush`, and its steps. -/
theorem flushChecksThenSendsRegion : Obligations.FlushChecksThenSendsRegion := by
  intro s x1 y1 x2 y2 buf fsm
  have other : HostOp.flush x1 y1 x2 y2 buf ≠ .bringUp := nofun
  refine ⟨fun outside => startOp_of_plan_fault other (fun _ => fsm) (flushPlan_of_outside outside buf),
    fun inside => ⟨regionPixels x1 y1 x2 y2, ?_,
      fun short => startOp_of_plan_fault other (fun _ => fsm) (flushPlan_of_short inside short),
      fun enough => ⟨_, rfl, ?_, startOp_of_plan other (fun _ => fsm) (flushPlan_of_enough inside enough)⟩⟩⟩
  · exact Int.toNat_of_nonneg (mul_nonneg (by omega) (by omega))
  · rw [length_pixelBytes, List.length_take_of_le enough]

end Sys2Proof.Machine
end

section
/-! PROOFS. The return of an operation, and the end of an `OK` transaction (R93, R95, R157, R169). -/

namespace Sys2Proof.Machine

/-- An operation whose transactions were all `OK` returns `OK` (R169). -/
theorem finalStatus_none (op : HostOp) : finalStatus op none = .ok := by cases op <;> rfl

/-- Bring-up returns into `READY`, any other operation where it was (R137). -/
theorem finalFsm_none (op : HostOp) (f : Fsm) : finalFsm op none f = if op = .bringUp then .ready else f := by
  cases op <;> rfl

/-- `flush` signals its completion with its status, and no other operation signals one (R157). -/
theorem finishOp_trace (op : HostOp) (e : Option BusError) (s : State) : (finishOp op e s).trace = s.trace ++
    (match op with
      | .flush _ _ _ _ _ => [.flushDone s.host.now (Status.ofBus e)]
      | _ => []) := by
  cases op with
  | flush => simp [finishOp, signalReturn, finalStatus]
  | _ => simp [finishOp, signalReturn]

/-- An `OK` return: the host side, where no step and no transaction is left (R93, R137, R169). -/
theorem finishOp_none_host {op : HostOp} {s : State} (tasks : s.host.tasks = []) (xfer : s.host.xfer = none) :
    (finishOp op none s).host = { s.host with
      op := none, status := some .ok, fsm := if op = .bringUp then .ready else s.host.fsm } := by
  rw [finishOp_host, finalStatus_none, finalFsm_none]
  simp [HostSide.setFsm, HostSide.setStatus, HostSide.setOp, HostSide.setTasks, HostSide.setXfer, tasks, xfer]

section
variable {s : State} {op : HostOp} (faults : s.faults = []) (slack : s.env.slack = 0) (busy : s.host.op = some op)
  (noOverlap : overlapDue s = none)
include faults slack busy noOverlap

/-- With no step left the step of an operation is its return (R93). -/
theorem step_of_no_task (xfer : s.host.xfer = none) (tasks : s.host.tasks = []) :
    step s = afterHostStep (.next (finishOp op none (countOverlap s))) := by
  rw [step_of_not_held faults slack busy noOverlap (by simp [isHeld, xfer, tasks])]
  simp [opStep, xfer, taskStep, tasks]

/-- The end of an `OK` transaction takes the transaction away (R95, R96). -/
theorem step_of_ok_end {x : Xfer} (xfer : s.host.xfer = some x) (words : x.words = []) (ok : x.error = none) :
    step s = afterHostStep (.next ((countOverlap s).setHost (s.host.setXfer none))) := by
  rw [step_of_not_held faults slack busy noOverlap (by simp [isHeld, xfer, ok])]
  simp [opStep, xfer, xferStep, words, ok]

end

/-- Settles O53: what a return leaves, the step that is the return, and the end of an `OK` transaction. -/
theorem onlyFlushSignalsCompletion : Obligations.OnlyFlushSignalsCompletion := by
  refine ⟨fun op e s => ⟨?_, ?_, finishOp_ctl op e s, finishOp_faults op e s⟩,
    fun s op faults slack busy noOverlap => ⟨fun xfer tasks => ?_, fun x xfer words ok => ?_⟩⟩
  · rw [finishOp_trace]
    cases op with
    | flush => cases e <;> rfl
    | _ => rfl
  · rw [finishOp_host]
    cases e with
    | none => rw [finalStatus_none, finalFsm_none]; rfl
    | some b => rw [finalStatus_error, finalFsm_error]; rfl
  · obtain ⟨e, after, -, -⟩ := afterHostStep_next (finishOp op none (countOverlap s))
    refine ⟨_, (step_of_no_task faults slack busy noOverlap xfer tasks).trans after, ?_⟩
    rw [State.setEnv_host, finishOp_none_host (by simpa using tasks) (by simpa using xfer)]
    simp [finishOp_trace, faults]
  · obtain ⟨e, after, -, -⟩ := afterHostStep_next ((countOverlap s).setHost (s.host.setXfer none))
    refine ⟨_, (step_of_ok_end faults slack busy noOverlap xfer words ok).trans after, ?_⟩
    simp [HostSide.setXfer, faults]

end Sys2Proof.Machine
end

section
/-! PROOFS. The backlight (R158 to R167): that it stands apart from the bus (R72, R166), the duty map (R162, R164), and what
configuring the channel and `set_backlight` do (R159, R161, R163, R167). -/

namespace Sys2Proof.Machine

/-! ## The backlight is off the pixel path -/

/-- `t` has the backlight of `s`. -/
def BacklightKept (s t : State) : Prop :=
  t.host.blDuty = s.host.blDuty ∧ t.host.blCfg = s.host.blCfg

/-- `t` is `s` after a duty code was committed now: the controller is left alone, and no bus word is recorded (R160, R166). -/
def DutyCommitted (s t : State) : Prop :=
  t.ctl = s.ctl ∧ ∃ code, t.host.blDuty = some code ∧ t.trace = s.trace ++ [.duty s.host.now code]

theorem Bookkeeping.backlightKept {s t : State} (h : Bookkeeping s t) : BacklightKept s t := ⟨h.blDuty, h.blCfg⟩

theorem backlightKept_of_host {s t : State} (h : t.host = s.host) : BacklightKept s t := by
  simp [BacklightKept, h]

/-- The reset line is not the backlight's (R125). -/
theorem driveReset_backlight {l : Level} {s t : State} (h : driveReset l s = .next t) : BacklightKept s t := by
  obtain ⟨-, -, hh | ⟨since, hh⟩⟩ := driveReset_frame h
  · exact backlightKept_of_host hh
  · simp [BacklightKept, hh]

/-- Of the tasks only a committed duty reaches the backlight (R160). -/
theorem TaskEffect.backlight {k : Task} {s t : State} (h : TaskEffect s k t) : BacklightKept s t ∨ DutyCommitted s t := by
  cases h with
  | duty k d bounded => exact .inr ⟨rfl, d, rfl, rfl⟩
  | line l t driven => exact .inl (driveReset_backlight driven)
  | _ => exact .inl ⟨rfl, rfl⟩

/-- An operation step that delivers a word, ends a transaction or returns leaves the backlight alone; a task may commit. -/
theorem opStep_backlight {op : HostOp} {s t : State} (h : opStep op s = .next t) :
    BacklightKept s t ∨ DutyCommitted s t := by
  rcases opStep_cases h with ⟨x, b, -, delivered⟩ | rfl | ⟨e, rfl⟩ | ⟨k, rest, -, -, task⟩
  · have kept : BacklightKept (takeWord x s) t := backlightKept_of_host delivered.host
    exact .inl kept
  · exact .inl ⟨rfl, rfl⟩
  · exact .inl (bookkeeping_finishOp op e s).backlightKept
  · exact (runTask_effect task).backlight

/-- Settles O32: time, a concurrent call and a start leave the backlight alone; a step of the operation commits a duty. -/
theorem backlightIsOffThePixelPath : Obligations.BacklightIsOffThePixelPath := by
  intro s t h changed
  have kept : BacklightKept s t ∨ DutyCommitted s t := by
    obtain ⟨-, ⟨d, e, rfl⟩ | ⟨op, op', -, rfl⟩ | ⟨op, e, u, e', -, -, run, rfl⟩ | ⟨op, e, u, e', -, start, rfl⟩⟩ :=
      step_cases h
    · exact .inl ⟨rfl, rfl⟩
    · exact .inl ⟨rfl, rfl⟩
    · exact opStep_backlight (s := s.setEnv e) (t := u) run
    · exact .inl (bookkeeping_startOp start).backlightKept
  exact kept.resolve_left fun ⟨duty, cfg⟩ => changed.elim (· duty) (· cfg)

/-! ## The duty map -/

@[simp] theorem dutyOf_zero (c : Config) : dutyOf c 0 = 0 := by simp [dutyOf]

@[simp] theorem dutyOf_hundred (c : Config) : dutyOf c 100 = c.dutyMax := Nat.mul_div_cancel_left _ (by decide)

theorem dutyOf_mono (c : Config) : Monotone (dutyOf c) :=
  fun _ _ h => Nat.div_le_div_right (Nat.mul_le_mul_right _ h)

/-- By the pigeonhole principle: 101 percentages have at most 100 duty codes. -/
theorem exists_dutyOf_eq {c : Config} (few : c.dutyMax < 100) : ∃ a b, a < b ∧ b ≤ 100 ∧ dutyOf c a = dutyOf c b := by
  have codes : Set.MapsTo (dutyOf c) (Finset.Iic 100) (Finset.Iic c.dutyMax) := fun p hp => by
    simpa using dutyOf_le (by simpa using hp)
  obtain ⟨a, ha, b, hb, ne, same⟩ := Finset.exists_ne_map_eq_of_card_lt_of_maps_to (by simp; omega) codes
  rcases ne.lt_or_gt with lt | lt
  · exact ⟨a, b, lt, Finset.mem_Iic.mp hb, same⟩
  · exact ⟨b, a, lt, Finset.mem_Iic.mp ha, same.symm⟩

/-- Settles O59, clause by clause. -/
theorem dutyMapEndsAndOrder : Obligations.DutyMapEndsAndOrder :=
  fun c _ _ => ⟨dutyOf_zero c, dutyOf_hundred c, fun h => dutyOf_mono c h, dutyOf_le, exists_dutyOf_eq⟩

/-! ## Configuring the channel and `set_backlight` -/

/-- Before the channel is configured `set_backlight` faults, whatever the percentage (R167). -/
theorem setBacklight_of_not_configured {s : State} (unconfigured : s.host.blCfg = false) (p : Nat) :
    setBacklight p s = .next (s.addFault (.blNotConfigured p)) :=
  if_pos unconfigured

section
variable {s : State} {p : Nat} (configured : s.host.blCfg = true)
include configured

/-- Out of range nothing is committed (R163). -/
theorem setBacklight_of_out_of_range (beyond : 100 < p) : setBacklight p s = .next (s.addFault (.blRange p)) := by
  rw [setBacklight, if_neg (by simp [configured]), if_pos beyond]
  rfl

theorem setBacklight_of_in_range (within : p ≤ 100) : setBacklight p s = .next (pwmCommit (dutyOf s.cfg p) s) := by
  rw [setBacklight, if_neg (by simp [configured]), if_neg (by omega)]

end

/-- Settles O58: the committed duty of the configuration, the two faults of `set_backlight`, and the duty of a percentage. -/
theorem setBacklightCommitsDuty : Obligations.SetBacklightCommitsDuty :=
  fun _ p => ⟨rfl, fun unconfigured => setBacklight_of_not_configured unconfigured p, setBacklight_of_out_of_range,
    setBacklight_of_in_range⟩

end Sys2Proof.Machine
end

section
/-! PROOFS. Faults and stops (R170, R173, R174, R180): which steps stop, what one step adds to the faults, that time passes by
itself (R183), the end of a failed transaction (R171), and the other sessions (R181). -/

namespace Sys2Proof.Machine

/-! ## A held fault, passing time and a concurrent call -/

/-- A state that holds a fault takes no step (R173). -/
theorem step_of_fault {s : State} {f : Raised} {fs : List Raised} (held : s.faults = f :: fs) :
    step s = .fault (.stopped f) := by
  simp [step, sessionStep, held]

section
variable {s : State} (faults : s.faults = [])
include faults

/-- Time that was drawn passes before the host's next turn (R183). -/
theorem step_of_slack (slack : s.env.slack ≠ 0) : step s = .next (spendSlack s) := by
  simp [step, sessionStep, faults, slack]

/-- A concurrent call that is due faults (R180). -/
theorem step_of_overlap {op op' : HostOp} (slack : s.env.slack = 0) (busy : s.host.op = some op)
    (due : overlapDue s = some op') : step s = .next (s.addFault (.concurrentAccess op op')) := by
  simp [step, sessionStep, faults, slack, hostTurn, busy, busyTurn, due, raise]

end

/-- Settles O47: the call at the head of the list is due. -/
theorem overlappingCallFaults : Obligations.OverlappingCallFaults := by
  intro s op op' rest faults slack busy calls
  exact step_of_overlap faults slack busy (by simp [overlapDue, calls])

/-! ## The stops of the model's own -/

/-- `r` is a next state, or a stop that the invariant `inv` rules out; so it is no refusal. -/
inductive NextIf (inv : Prop) : Result → Prop where
  | next (t : State) : NextIf inv (.next t)
  | stop (f : Fault) (broken : ¬inv) : NextIf inv (.fault f)

theorem NextIf.of_eq_next {inv : Prop} {r : Result} {t : State} (h : r = .next t) : NextIf inv r := h ▸ .next t

theorem NextIf.of_imp {inv inv' : Prop} {r : Result} (h : NextIf inv r) (imp : inv' → inv) : NextIf inv' r := by
  cases h with
  | next t => exact .next t
  | stop f broken => exact .stop f (mt imp broken)

theorem NextIf.afterHostStep {inv : Prop} {r : Result} (h : NextIf inv r) : NextIf inv (afterHostStep r) := by
  cases h with
  | next t => exact .next _
  | stop f broken => exact .stop f broken

/-! ### A delivered word -/

/-- A command word stops only where its `Execute` does (R98, R99). -/
theorem nextIf_commandWord {inv : Prop} {body : State → Result} (hbody : ∀ u, NextIf inv (body u)) (i : Instr)
    (s : State) : NextIf inv (commandWord i body s) := by
  rcases commandWord_cases i body s with ⟨-, -, h⟩ | ⟨f, h⟩
  · exact h ▸ hbody _
  · exact .of_eq_next h

theorem nextIf_ramwrEffect (inv : Prop) (s : State) : NextIf inv (ramwrEffect s) := by
  rcases ramwrEffect_cases s with ⟨xs, xe, ys, ye, -, -, -, -, -, -, -, h⟩ | ⟨f, h⟩ <;> exact .of_eq_next h

/-- The last byte of an open parameter list completes it exactly (R31, R101). -/
theorem nextIf_commitParams {op : ParamCmd} {args : List Byte} {b : Byte} {s : State}
    (parser : s.ctl.parser = .params op args) (full : op.nparams ≤ (args ++ [b]).length) :
    NextIf (ParserOk s) (commitParams op (args ++ [b]) (closeStream s)) := by
  rcases commitParams_cases op (args ++ [b]) (closeStream s) with
    ⟨-, _, h⟩ | ⟨-, _, h⟩ | ⟨-, _, h⟩ | ⟨-, _, h⟩ | ⟨overfull, h⟩
  · exact .of_eq_next h
  · exact .of_eq_next h
  · exact .of_eq_next h
  · exact .of_eq_next h
  · refine h ▸ .stop _ fun ok => overfull ?_
    have lacks := ok.params op args parser
    simp only [List.length_append, List.length_singleton] at full ⊢
    omega

/-- The cursor of an open memory write is known, and on the display (R114, R116). -/
theorem nextIf_pixelLow {h l : Byte} {s : State} (writing : s.ctl.parser = .memwrite) :
    NextIf (ParserOk s) (pixelLow h l s) := by
  rcases pixelLow_cases h l s with ⟨cx, cy, xs, xe, ye, -, -, -, -, -, -, -, hl⟩ | ⟨cx, cy, hcx, hcy, off, hl⟩ | ⟨lost, hl⟩
  · exact .of_eq_next hl
  · refine hl ▸ .stop _ fun ok => off ?_
    obtain ⟨-, -, xs, xe, ys, ye, cx', cy', -, -, -, -, hcx', hcy', legal, -, inX, -, inY⟩ := ok.writing writing
    obtain rfl := Option.some.inj (hcx.symm.trans hcx')
    obtain rfl := Option.some.inj (hcy.symm.trans hcy')
    rw [windowLegal_iff] at legal
    omega
  · refine hl ▸ .stop _ fun ok => ?_
    obtain ⟨-, -, xs, xe, ys, ye, cx, cy, hxs, hxe, hys, hye, hcx, hcy, -⟩ := ok.writing writing
    simp [hxs, hxe, hye, hcx, hcy] at lost

theorem nextIf_dataWord (b : Byte) (s : State) : NextIf (ParserOk s) (dataWord b s) := by
  rcases dataWord_cases b s with ⟨f, h⟩ | ⟨op, args, -, -, h⟩ | ⟨op, args, parser, full, h⟩ | ⟨-, -, -, h⟩ |
    ⟨v, writing, -, -, h⟩
  · exact .of_eq_next h
  · exact .of_eq_next h
  · exact h ▸ nextIf_commitParams parser full
  · exact .of_eq_next h
  · exact h ▸ nextIf_pixelLow writing

theorem nextIf_exec (i : Instr) (s : State) : NextIf (ParserOk s) (exec i s) := by
  cases i with
  | ramwr => exact nextIf_commandWord (nextIf_ramwrEffect _) _ s
  | data b =>
    rcases deliver_cases (encode (.data b)) (dataWord b) s with ⟨-, h⟩ | ⟨-, f, h⟩
    · rw [exec, execData, h]
      exact (nextIf_dataWord b _).of_imp fun ok => ok.of_eq rfl rfl
    · exact .of_eq_next h
  | _ => exact nextIf_commandWord (fun u => .next _) _ s

/-- A delivered word stops only where the parser's invariant is broken. -/
theorem nextIf_deliverWord (w : BusWord) (s : State) : NextIf (ParserOk s) (deliverWord w s) := by
  unfold deliverWord
  split
  · exact nextIf_exec _ s
  · rcases execUnknown_cases _ s with ⟨-, -, h⟩ | ⟨f, h⟩ <;> exact .of_eq_next h

/-! ### The operation in progress, and a start -/

/-- The time of the falling edge is known while the line is low (R25). -/
theorem nextIf_driveReset (l : Level) (s : State) : NextIf (ResetLineOk s) (driveReset l s) := by
  rcases driveReset_cases l s with ⟨-, since, h, -⟩ | ⟨-, low, lost, h⟩ | ⟨-, since, -, -, -, h⟩ |
    ⟨-, since, -, -, -, h⟩ | ⟨-, -, h⟩
  · exact .of_eq_next h
  · exact h ▸ .stop _ fun ok => ok.edge.mp low lost
  · exact .of_eq_next h
  · exact .of_eq_next h
  · exact .of_eq_next h

/-- Of the tasks only a driven reset line can stop. -/
theorem nextIf_runTask (k : Task) (s : State) : NextIf (ResetLineOk s) (runTask k s) := by
  cases k with
  | block bytes length =>
    rcases sendDataBlock_cases bytes length s with ⟨-, h⟩ | ⟨-, h⟩ | ⟨-, -, h⟩ <;> exact .of_eq_next h
  | window x1 y1 x2 y2 =>
    simp only [runTask, windowTask]
    split <;> exact .next _
  | fill c total =>
    simp only [runTask, fillTask]
    split <;> exact .next _
  | driveReset level => exact nextIf_driveReset level s
  | setBacklight p =>
    simp only [runTask, setBacklight]
    split_ifs <;> exact .next _
  | _ => exact .next _

/-- The operation in progress stops only in a word or at the reset line. -/
theorem nextIf_opStep (op : HostOp) (s : State) : NextIf (ParserOk s ∧ ResetLineOk s) (opStep op s) := by
  unfold opStep
  split
  · rename_i x _
    unfold xferStep
    split
    · exact (nextIf_deliverWord _ _).of_imp fun ok => ok.1.of_eq rfl rfl
    · split <;> exact .next _
  · unfold taskStep
    split
    · exact .next _
    · exact (nextIf_runTask _ _).of_imp fun ok => ok.2.of_bookkeeping {}

/-- An idle host is in no bring-up step (R27). -/
theorem nextIf_startOp {op : HostOp} {s : State} (idle : s.host.op = none) : NextIf (OperationOk s) (startOp op s) := by
  rcases startOp_cases op s with ⟨f, h⟩ | ⟨-, f, h⟩ | ⟨-, ts, -, h⟩ | ⟨-, -, h⟩ | ⟨-, k, nested, h⟩
  · exact .of_eq_next h
  · exact .of_eq_next h
  · exact .of_eq_next h
  · exact .of_eq_next h
  · exact h ▸ .stop _ fun ok => (ok.outside (by simp [idle])).2 k nested

/-- With no fault held a step stops only where an invariant is broken. -/
theorem nextIf_step {s : State} (faults : s.faults = []) :
    NextIf (ParserOk s ∧ ResetLineOk s ∧ OperationOk s) (step s) := by
  by_cases slack : s.env.slack = 0
  case neg => exact .of_eq_next (step_of_slack faults slack)
  cases turn : s.host.op with
  | some op =>
    cases due : overlapDue s with
    | some op' => exact .of_eq_next (step_of_overlap faults slack turn due)
    | none =>
      cases held : isHeld s with
      | true => exact .of_eq_next (step_of_held faults slack turn due held)
      | false =>
        obtain ⟨e, counted⟩ := countOverlap_eq s
        rw [step_of_not_held faults slack turn due held, counted]
        exact .afterHostStep (.of_imp (nextIf_opStep op _) fun ⟨parser, line, _⟩ =>
          ⟨parser.of_eq rfl rfl, line.of_bookkeeping {}⟩)
  | none =>
    cases calls : s.env.calls with
    | cons c rest =>
      rw [step_of_call faults slack turn calls]
      exact .afterHostStep (.of_imp (nextIf_startOp turn) fun ⟨_, _, operation⟩ => operation.of_host rfl)
    | nil => exact .of_eq_next (step_of_no_call faults slack turn calls)

/-- Settles O40: without a held fault a step that is no next state breaks an invariant, and none is a refusal. -/
theorem noStopButAHeldFault : Obligations.NoStopButAHeldFault := by
  refine ⟨fun s f parser line operation stops => ?_, fun s r refuses => ?_⟩
  · cases faults : s.faults with
    | nil =>
      cases stops ▸ nextIf_step faults with
      | stop _ broken => exact absurd ⟨parser, line, operation⟩ broken
    | cons g gs => exact ⟨g, gs, rfl, Host.Outcome.fault.inj (stops.symm.trans (step_of_fault faults))⟩
  · cases faults : s.faults with
    | nil => cases refuses ▸ nextIf_step faults
    | cons g gs => cases refuses.symm.trans (step_of_fault faults)

/-! ## At most one fault a step -/

/-- `t` holds the faults of `s` and at most one more. -/
def RaisesAtMostOne (s t : State) : Prop := t.faults = s.faults ∨ ∃ f, t.faults = insertFault s.faults f

/-- One raise from no fault is within R174. -/
theorem RaisesAtMostOne.faultsOk {s t : State} (h : RaisesAtMostOne s t) (none : s.faults = []) : FaultsOk t := by
  rcases h with same | ⟨f, raised⟩
  · simp [FaultsOk, same, none]
  · simp [FaultsOk, raised, none, insertFault]

theorem Delivered.raises {w : BusWord} {s t : State} (h : Delivered w s t) : RaisesAtMostOne s t := by
  obtain ⟨c, -, rfl | ⟨f, rfl⟩⟩ := h
  · exact .inl rfl
  · exact .inr ⟨f, rfl⟩

theorem driveReset_raises {l : Level} {s t : State} (h : driveReset l s = .next t) : RaisesAtMostOne s t := by
  rcases driveReset_cases l s with ⟨-, since, hd, -⟩ | ⟨-, -, -, hd⟩ | ⟨-, since, -, -, -, hd⟩ |
    ⟨-, since, -, -, -, hd⟩ | ⟨-, -, hd⟩ <;> cases hd.symm.trans h
  · exact .inl rfl
  · exact .inr ⟨_, rfl⟩
  · exact .inl rfl
  · exact .inl rfl

theorem TaskEffect.raises {k : Task} {s t : State} (h : TaskEffect s k t) : RaisesAtMostOne s t := by
  cases h with
  | fault k f => exact .inr ⟨f, rfl⟩
  | line l t driven => exact driveReset_raises driven
  | _ => exact .inl rfl

theorem opStep_raises {op : HostOp} {s t : State} (h : opStep op s = .next t) : RaisesAtMostOne s t := by
  rcases opStep_cases h with ⟨x, b, -, delivered⟩ | rfl | ⟨e, rfl⟩ | ⟨k, rest, -, -, task⟩
  · exact (delivered.raises :)
  · exact .inl rfl
  · exact .inl (finishOp_faults op e s)
  · exact ((runTask_effect task).raises :)

theorem startOp_raises {op : HostOp} {s t : State} (h : startOp op s = .next t) : RaisesAtMostOne s t := by
  rcases startOp_cases op s with ⟨f, hc⟩ | ⟨-, f, hc⟩ | ⟨-, ts, -, hc⟩ | ⟨-, -, hc⟩ | ⟨-, k, -, hc⟩ <;>
    cases hc.symm.trans h
  · exact .inr ⟨f, rfl⟩
  · exact .inr ⟨f, rfl⟩
  · exact .inl rfl
  · exact .inl rfl

theorem step_raises {s t : State} (h : step s = .next t) : RaisesAtMostOne s t := by
  obtain ⟨-, ⟨d, e, rfl⟩ | ⟨op, op', -, rfl⟩ | ⟨op, e, u, e', -, -, run, rfl⟩ | ⟨op, e, u, e', -, start, rfl⟩⟩ :=
    step_cases h
  · exact .inl rfl
  · exact .inr ⟨_, rfl⟩
  · exact (opStep_raises run :)
  · exact (startOp_raises start :)

/-- Settles O28: a held fault stops, and a step from none raises at most one. -/
theorem faultsAreStickyAndFinal : Obligations.FaultsAreStickyAndFinal :=
  ⟨fun _ _ _ => step_of_fault, fun _ _ h => ⟨(step_cases h).1, (step_raises h).faultsOk (step_cases h).1⟩⟩

/-! ## The clock -/

theorem driveReset_now {l : Level} {s t : State} (h : driveReset l s = .next t) : t.host.now = s.host.now := by
  obtain ⟨-, -, hh | ⟨since, hh⟩⟩ := driveReset_frame h <;> simp [hh]

/-- A task takes no time; a delay sets the wake time and holds (R126). -/
theorem TaskEffect.now {k : Task} {s t : State} (h : TaskEffect s k t) : t.host.now = s.host.now := by
  cases h with
  | line l t driven => exact driveReset_now driven
  | _ => rfl

/-- No step of an operation moves the clock (R95, R183). -/
theorem opStep_now {op : HostOp} {s t : State} (h : opStep op s = .next t) : t.host.now = s.host.now := by
  rcases opStep_cases h with ⟨x, b, -, delivered⟩ | rfl | ⟨e, rfl⟩ | ⟨k, rest, -, -, task⟩
  · exact (congrArg HostSide.now delivered.host :)
  · rfl
  · exact (bookkeeping_finishOp op e s).now
  · exact (runTask_effect task).now

/-- A step that is no passing of time leaves the clock (R183). -/
theorem step_tick_or_now {s t : State} (h : step s = .next t) :
    (∃ d e, t = tick d (s.setEnv e)) ∨ t.host.now = s.host.now := by
  obtain ⟨-, passing | ⟨op, op', -, rfl⟩ | ⟨op, e, u, e', -, -, run, rfl⟩ | ⟨op, e, u, e', -, start, rfl⟩⟩ :=
    step_cases h
  · exact .inl passing
  · exact .inr rfl
  · exact .inr (opStep_now run :)
  · exact .inr (bookkeeping_startOp start).now

/-- Settles O30: the clock moves only where time passes, and drawn time passes first. -/
theorem onlyTimeMovesTheClock : Obligations.OnlyTimeMovesTheClock := by
  refine ⟨fun s t h => ?_, fun s faults slack => step_of_slack faults slack⟩
  rcases step_tick_or_now h with ⟨d, e, rfl⟩ | same
  · exact ⟨Nat.le_add_right _ d, fun _ => ⟨rfl, rfl, rfl, rfl⟩⟩
  · exact ⟨same.ge, fun moved => absurd same.symm moved⟩

/-! ## A failed transaction -/

/-- The end of a failed transaction is the return of its operation (R171), once a time-out no longer holds the host. -/
theorem step_of_failed_end {s : State} {op : HostOp} (faults : s.faults = []) (slack : s.env.slack = 0)
    (busy : s.host.op = some op) (noOverlap : overlapDue s = none) {x : Xfer} {e : BusError} (xfer : s.host.xfer = some x)
    (words : x.words = []) (error : x.error = some e) (free : isHeld s = false) :
    step s = afterHostStep (.next (finishOp op (some e) (countOverlap s))) := by
  rw [step_of_not_held faults slack busy noOverlap free]
  simp [opStep, xfer, xferStep, words, error]

/-- Settles O45: `BUS_FAIL` does not hold the host, so the step is the return. -/
theorem failedTransactionEndsOperation : Obligations.FailedTransactionEndsOperation := by
  intro s op x faults slack busy noOverlap xfer words error
  have free : isHeld s = false := by simp [isHeld, xfer, error]
  obtain ⟨e, after, -, -⟩ := afterHostStep_next (finishOp op (some .fail) (countOverlap s))
  refine ⟨_, (step_of_failed_end faults slack busy noOverlap xfer words error free).trans after, ?_⟩
  simpa [finishOp_host, finalStatus_error, finalFsm_error, faults] using finishOp_error_trace op .fail (countOverlap s)

/-! ## Several sessions -/

/-- A step of session `i` replaces that entry of the list by the session's own next state (R181). -/
theorem exists_of_sessionsStep {ss ts : List State} {i : Nat} (h : sessionsStep ss i = some (.next ts)) :
    ∃ s t, ss[i]? = some s ∧ step s = .next t ∧ ts = ss.set i t := by
  induction ss generalizing i ts with
  | nil => cases h
  | cons s rest ih =>
    cases i with
    | zero =>
      simp only [sessionsStep] at h
      split at h <;> cases h
      exact ⟨s, _, rfl, by assumption, rfl⟩
    | succ i =>
      simp only [sessionsStep] at h
      split at h <;> cases h
      obtain ⟨s', t, there, own, rfl⟩ := ih (by assumption)
      exact ⟨s', t, there, own, rfl⟩

/-- Settles O60: one entry of the list is replaced. -/
theorem otherSessionsKeepTheirStates : Obligations.OtherSessionsKeepTheirStates := by
  intro ss ts i h
  obtain ⟨s, t, there, own, rfl⟩ := exists_of_sessionsStep h
  obtain ⟨inside, -⟩ := List.getElem?_eq_some_iff.mp there
  exact ⟨⟨s, t, there, own, List.getElem?_set_self inside⟩, fun j other => List.getElem?_set_ne other.symm,
    List.length_set⟩

end Sys2Proof.Machine
end
